-- ==== Sys2Proof/Word.lean ====
section
/-! DEFINITION. The plain types the model is written in: bytes, position sets and tables of a fixed number of like things. -/

namespace Sys2Proof

/-- One byte of the bench link (11, opening). -/
abbrev Byte := BitVec 8

/-- A position or slot number, 0..47 (00, Terms). -/
abbrev Pos := Fin 48

/-- A set of positions, one bit per position, position 0 in bit 0 (00, Conventions). -/
abbrev PosSet := BitVec 48

/-- A fixed number `n` of like things, numbered from 0. The list is the data; its length is carried with it. -/
structure Tbl (n : Nat) (α : Type) where
  /-- The entries, number 0 first. -/
  cells : List α
  /-- There are exactly `n` of them. -/
  size : cells.length = n
deriving DecidableEq, Repr

/-- Entry number `i`. -/
def Tbl.get {n : Nat} {α : Type} (t : Tbl n α) (i : Fin n) : α :=
  t.cells.get (i.cast t.size.symm)

/-- The table with entry `i` replaced by `a`. -/
def Tbl.set {n : Nat} {α : Type} (t : Tbl n α) (i : Fin n) (a : α) : Tbl n α :=
  ⟨t.cells.set i.val a, by simp [t.size]⟩

/-- The table whose entry `i` is `f i`. -/
def Tbl.ofFn {n : Nat} {α : Type} (f : Fin n → α) : Tbl n α :=
  ⟨List.ofFn f, by simp⟩

/-- Every entry equal to `a`. -/
def Tbl.fill (n : Nat) {α : Type} (a : α) : Tbl n α :=
  ⟨List.replicate n a, by simp⟩

/-- Each entry changed by `f`, which also sees its number. -/
def Tbl.mapIdx {n : Nat} {α β : Type} (f : Fin n → α → β) (t : Tbl n α) : Tbl n β :=
  Tbl.ofFn fun i => f i (t.get i)

/-- Some entry meets `f`. -/
def Tbl.any {n : Nat} {α : Type} (f : α → Bool) (t : Tbl n α) : Bool := t.cells.any f

/-- Every entry meets `f`. -/
def Tbl.all {n : Nat} {α : Type} (f : α → Bool) (t : Tbl n α) : Bool := t.cells.all f

/-- The set of the positions that meet `f`. -/
def PosSet.ofPred (f : Pos → Bool) : PosSet := BitVec.ofFnLE f

/-- The set that holds `p` alone. -/
def PosSet.single (p : Pos) : PosSet := BitVec.twoPow 48 p.val

/-- `p` is in the set. -/
def PosSet.has (s : PosSet) (p : Pos) : Bool := s.getLsbD p.val

/-- The set with `p` put in. -/
def PosSet.insert (s : PosSet) (p : Pos) : PosSet := s ||| PosSet.single p

/-- The set with `p` taken out. -/
def PosSet.erase (s : PosSet) (p : Pos) : PosSet := s &&& ~~~(PosSet.single p)

end Sys2Proof
end

