-- ==== Sys2Proof/Syntax.lean ====
section
/-! DEFINITION. The commands of the part, one constructor per row of the opcode table, with their operands. -/

namespace Sys2Proof

/-- How a request frame was addressed: to this part's station, or to all parts with 0x7F (R180). -/
inductive Addressing
  | addressed
  | broadcast
deriving DecidableEq, Repr

/-- The two reference inputs (R53). -/
inductive RefInput
  | refA
  | refB
deriving DecidableEq, Repr

/-- How long a rising reference edge comes after the previous counted edge: `close` is less than 1 microsecond (R54). -/
inductive Spacing
  | ample
  | close
deriving DecidableEq, Repr

/-- A test point as it travels: a place for every field of every method, at the widths of R201. -/
structure PointForm where
  method : Byte
  load : BitVec 16
  settle : BitVec 32
  pauseAfter : Byte
  n : BitVec 16
  repetitions : Byte
  timeout : BitVec 16
  /-- Limit and spread limit of each class, class 0 first. -/
  limits : Tbl 4 (BitVec 24 × BitVec 24)
  startWindow : BitVec 16
  required : Byte
  creepWindow : BitVec 16
  allowed : Byte
deriving DecidableEq, Repr

/-- The commands. A request row is a whole request frame the receiver takes (log 1); its parameters stand in the order and at
the widths of 11, section 11.2, and a serial's length byte is the length of its list. -/
inductive Instr
  -- reset and bench link characters
  | fullReset (station : BitVec 4) (role : BitVec 2) (rate : BitVec 2)
  | addressCharacter (value : Byte)
  | dataCharacter (value : Byte)
  | framingError
  | gapTimerExpiry
  | quietTimerExpiry
  | responseSent
  -- settings, identification, attention
  | identify (how : Addressing)
  | set (how : Addressing) (id : Byte) (value : BitVec 32)
  | setOrient (how : Addressing) (value : BitVec 32)
  | setSampleRate (how : Addressing) (value : BitVec 32)
  | setRefSelect (how : Addressing) (value : BitVec 32)
  | setRefWindow (how : Addressing) (value : BitVec 32)
  | setRestCode (how : Addressing) (value : BitVec 32)
  | setExcitation (how : Addressing) (value : BitVec 32)
  | setPitch (how : Addressing) (value : BitVec 32)
  | setHomeOffset (how : Addressing) (value : BitVec 32)
  | setTravel (how : Addressing) (value : BitVec 32)
  | setAttnMask (how : Addressing) (value : BitVec 32)
  | get (how : Addressing) (id : Byte)
  | benchClear (how : Addressing)
  | attend (how : Addressing)
  | attendDone (how : Addressing) (level : Byte)
  -- position records
  | mount (how : Addressing) (position : Byte) (mr : BitVec 32) (sense cls : Byte) (serial : List Byte)
  | confirm (how : Addressing) (position : Byte)
  | setMeter (how : Addressing) (position : Byte) (mr : BitVec 32) (sense cls : Byte)
  | readRecord (how : Addressing) (position section_ : Byte)
  | find (how : Addressing) (serial : List Byte)
  | retire (how : Addressing) (position : Byte)
  | retest (how : Addressing) (position : Byte)
  | exclude (how : Addressing) (position : Byte)
  | ackTag (how : Addressing) (position : Byte) (tag : BitVec 32)
  | ackSpoiled (how : Addressing) (position : Byte) (tag : BitVec 32)
  | cursorSet (how : Addressing) (cursor : Byte)
  | readNext (how : Addressing) (count : Byte)
  | editBegin (how : Addressing)
  | editEnd (how : Addressing)
  | setMeterNext (how : Addressing) (mr : BitVec 32) (sense cls : Byte)
  -- test plan
  | planClear (how : Addressing)
  | planAppend (how : Addressing) (point : PointForm)
  | planReplace (how : Addressing) (place : Byte) (point : PointForm)
  | planRead (how : Addressing) (place : Byte)
  | planTruncate (how : Addressing) (length : Byte)
  -- run
  | runStart (how : Addressing)
  | runHold (how : Addressing)
  | runResume (how : Addressing)
  | runAbort (how : Addressing)
  | runStatus (how : Addressing)
  -- tag stock, closure queue, carriage
  | rollLoad (how : Addressing) (slot : Byte) (first last : BitVec 32)
  | rollDrop (how : Addressing) (slot : Byte)
  | stockRead (how : Addressing)
  | close (how : Addressing) (position : Byte)
  | closeCancel (how : Addressing) (position : Byte)
  | queueRead (how : Addressing) (start : Byte)
  | carriageHome (how : Addressing)
  | closureClear (how : Addressing)
  | closureStatus (how : Addressing)
  -- measuring
  | meterEdge (slot : Pos)
  | referenceEdge (input : RefInput) (spacing : Spacing)
  | presenceWindowExpiry
  | pointTimerExpiry
  -- run controller and cascade
  | srcReadyRise
  | srcReadyFall
  | latencyTimerExpiry
  | sourceTimerExpiry
  | settleTimerExpiry
  | phaseLowIntervalEnd
  | cascadeHoldOffExpiry
  | guardTimerExpiry
  | doneRise
  | doneFall
  | phaseRise
  | phaseFall
  -- carriage and press
  | stepTimerExpiry
  | homeRise
  | homeFall
  | dwellTimerExpiry
  | pressDoneRise
  | pressDoneFall
  | pressTimerExpiry
  -- operator panel
  | loadKey
  | closeKey
  | removeKey
  | holdKey
  | resumeKey
  | stopKey
  | lampTestKey
  | cancelKey
  | positionKey (key : Pos)
  | keyRelease (key : Fin 56)
  | modeTimerExpiry
  | refusalFlashExpiry (slot : Pos)
  | lampTestExpiry
  -- line and time base
  | startBitAccepted
  | rxdHighInterval
  | sampleInstant (inputs : BitVec 48)
  | millisecondTick (srcReady home pressDone phase done : Bool) (rows : BitVec 7)
  | keyPressNotActing (key : Fin 56)
deriving DecidableEq, Repr

end Sys2Proof
end

