-- ==== Sys2Proof/Decode.lean ====
section
/-! DEFINITION. Decoding of table words. The opcode table gives bits to none of its 98 rows (the part takes commands, not coded
words), so no word spells a command. Request frames of the bench link are parsed in Machine/Operands.lean. -/

namespace Sys2Proof

/-- The command that a word spells by the table's bits: none, since no row has bits. -/
def decodeTableWord (_nbits _w : Nat) : Option Instr := none

end Sys2Proof
end

