-- ==== Sys2Proof/Config.lean ====
section
/-! DEFINITION. What the part fixes once and for all: its capacities, its fixed times and its identity. The spec leaves no result
of an operation without a value, so there is no free value here. -/

namespace Sys2Proof.Config

/-- The largest plan (R28, R187). -/
def planPlaces : Nat := 16

/-- The length of a cascade hold-off in milliseconds (R113). -/
def holdOffMs : Nat := 10

/-- How long PHASE stays low after a fall, in milliseconds (R113). -/
def phaseLowMs : Nat := 3

/-- What the guard timer adds to the point's own time, in milliseconds (R113). -/
def guardExtraMs : Nat := 1000

/-- The length of a refusal flash in milliseconds (R169). -/
def flashMs : Nat := 1000

/-- The length of the lamp test in milliseconds (R174). -/
def lampTestMs : Nat := 3000

/-- The period of the pattern clock in milliseconds (R172). -/
def patternMs : Nat := 2000

/-- The largest tag number (R7, R123). -/
def tagMax : Nat := 999999999

/-- The largest magnitude of a stored error in ppm (R71, R72). -/
def ppmMax : Nat := 999999

/-- One unit of MR is 1/65,536 of a reference pulse per meter pulse (R3). -/
def ratioUnit : Nat := 65536

/-- The most bytes from CMD to the last parameter of a frame (R181). -/
def frameMax : Nat := 48

/-- The most summaries one READ_NEXT returns (R191). -/
def summariesMax : Nat := 5

/-- The most entries one QUEUE_READ returns (R138). -/
def entriesMax : Nat := 32

/-- The part number that IDENTIFY returns (R187). -/
def partNumber : Nat := 4820

/-- The revision that IDENTIFY returns (R187). -/
def revision : Nat := 1

/-- The bench link's baud rate by the RATE straps (R177). -/
def baud (rate : BitVec 2) : Nat :=
  match rate.toNat with
  | 0 => 19200
  | 1 => 38400
  | 2 => 115200
  | _ => 230400

end Sys2Proof.Config
end

