-- ==== Sys2Proof/Machine/State.lean ====
section
/-! DEFINITION. The state of the part as plain data, block by block as the spec's Block overview lists them, and the state right
after full reset. -/

namespace Sys2Proof.Machine

/-- Nothing the spec describes stops the part: it has no fault in this sense (INVENTORY.md, Faults). No constructor, so none is
raised; safe. -/
inductive Fault
deriving DecidableEq, Repr

/-- Why a command has no meaning here. -/
inductive Refusal
  /-- Raised by the dispatch of a command that is not modelled yet, by its mnemonic; no arm raises it now; safe. -/
  | notModelled (mnemonic : String)
deriving DecidableEq, Repr

/-! ## Parts shared by several blocks -/

/-- A running timer on the millisecond time base (R1): the length it was started with, and what is left of it. A stopped timer is
the absence of one. -/
structure Timer where
  length : Nat
  left : Nat
deriving DecidableEq, Repr

/-- A two-sample filter: a confirmed level (high or DOWN is `true`), a pending flag, and whether the first sample has seeded it
(R47, R48, R89, R112, R144, R164). -/
structure Filter where
  level : Bool
  pending : Bool
  seeded : Bool
deriving DecidableEq, Repr

/-- The status codes (00, Conventions). -/
inductive Status
  | ok | clamped | unknown | badLength | outOfRange | wrongState | busy | duplicate | notFound | noStock | overlap
  | mismatch | unreported | outOfReach | verdictsHeld
deriving DecidableEq, Repr

/-- A status with its payload: what a request is answered with (R183). -/
structure Reply where
  status : Status
  payload : List Byte
deriving DecidableEq, Repr

/-! ## Straps and settings -/

/-- The role of the part (R111). -/
inductive Role
  | solo | master | slave
deriving DecidableEq, Repr

/-- The strap values read at full reset (R177). -/
structure Straps where
  station : BitVec 4
  role : Role
  rate : BitVec 2
deriving DecidableEq, Repr

/-- The bench orientation (R43). -/
inductive Orientation
  | normal | mirrored
deriving DecidableEq, Repr

/-- The stepper drive pattern (R145). -/
inductive Excitation
  | full | half
deriving DecidableEq, Repr

/-- The twenty settings (10, section 10.5). -/
structure Settings where
  orient : Orientation
  sampleRate : Nat
  refSelect : RefInput
  refWindow : Nat
  srcLatency : Nat
  srcTimeout : Nat
  restCode : BitVec 12
  excitation : Excitation
  stepStart : Nat
  stepRun : Nat
  rampSteps : Nat
  pitch : Nat
  homeOffset : Nat
  travel : Nat
  pressDwell : Nat
  pressTimeout : Nat
  stockLow : Nat
  panelTimeout : Nat
  brightness : Nat
  attnMask : BitVec 6
deriving DecidableEq, Repr

/-! ## Bench Link Interface -/

/-- The receiver state; LISTENING carries how the frame is addressed and the frame assembly buffer, from LEN on (R180, R181). -/
inductive Receiver
  | idle
  | listening (how : Addressing) (frame : List Byte)
  | ignoring
  | responding
deriving DecidableEq, Repr

/-- What RXD must do before the receiver looks for start bits again (R178, R179). -/
inductive RxWait
  | none | afterReset | afterFramingError
deriving DecidableEq, Repr

/-- The Bench Link Interface (R178). -/
structure Link where
  receiver : Receiver
  /-- The gap timer of 20 bit times runs (R181). -/
  gap : Bool
  /-- The quiet timer of 20 bit times runs (R183). -/
  quiet : Bool
  /-- The response pending or being sent (R183). -/
  response : Option Reply
  /-- TXEN is asserted (R183). -/
  txen : Bool
  rxWait : RxWait
  /-- The record cursor, 0..48, the edit mark, and edit mode (R190). -/
  cursor : Nat
  mark : Nat
  edit : Bool
deriving DecidableEq, Repr

/-! ## Attention Controller -/

/-- How a run ended (R87); NONE only as the last ending. -/
inductive Ending
  | none | complete | aborted | emptied
deriving DecidableEq, Repr

/-- The detail of OPERATOR (R194). -/
structure OperatorNews where
  loaded : PosSet
  removed : PosSet
  blocked : PosSet
deriving DecidableEq, Repr

/-- The detail of POINT_END (R194). -/
structure PointNews where
  index : Nat
  short : PosSet
deriving DecidableEq, Repr

/-- The detail of FAULT: the kind set at the bits of R202, and the positions of press faults. -/
structure FaultNews where
  kinds : BitVec 7
  positions : PosSet
deriving DecidableEq, Repr

/-- The Attention Controller (R194). A class is pending exactly when its detail is present. -/
structure Attention where
  stockLow : Option Nat
  operator : Option OperatorNews
  closed : Option PosSet
  pointEnd : Option PointNews
  runEnd : Option Ending
  fault : Option FaultNews
  /-- The levels in service; level L is bit L - 1. -/
  inService : BitVec 6
  /-- ATN is asserted (R195). -/
  atn : Bool
deriving DecidableEq, Repr

/-! ## Position Table -/

/-- The eight position states (R2). -/
inductive PosState
  | vacant | mounted | ready | active | passed | failed | closing | closed
deriving DecidableEq, Repr

/-- The edge of the test output the part counts (R3). -/
inductive Sense
  | rising | falling
deriving DecidableEq, Repr

/-- A meter's identity (R3). -/
structure Identity where
  serial : List Byte
  mr : Nat
  sense : Sense
  cls : Fin 4
deriving DecidableEq, Repr

/-- The three methods of a point (R29). -/
inductive Method
  | error | start | creep
deriving DecidableEq, Repr

/-- The outcome of one point at one position (R5). -/
inductive PointOutcome
  | notRun | pass | fail | noPulse | noReference | excluded | cut
deriving DecidableEq, Repr

/-- A point result (R5). -/
structure PointResult where
  outcome : PointOutcome
  method : Method
  repetitions : Nat
  value : Option Int
  spread : Option Nat
  saturated : Bool
deriving DecidableEq, Repr

/-- The phase of a live context (R6). -/
inductive Phase
  | awaitEdge | gateOpen | done
deriving DecidableEq, Repr

/-- The live measurement context (R6); minimum and maximum are present together. -/
structure Context where
  phase : Phase
  c0 : BitVec 32
  edges : Nat
  sum : Int
  range : Option (Int × Int)
  repetitions : Nat
  pulses : Nat
  saturated : Bool
deriving DecidableEq, Repr

/-- A closure tag with its acknowledged flag (R7). -/
structure ClosureTag where
  number : Nat
  acknowledged : Bool
deriving DecidableEq, Repr

/-- One position record (R2). -/
structure Record where
  state : PosState
  identity : Option Identity
  results : List PointResult
  context : Option Context
  closure : Option ClosureTag
  spoiled : Option Nat
deriving DecidableEq, Repr

/-- The Position Table: the records, and the index of the serials of the non-VACANT ones by rising position (R2, R9). -/
structure Table where
  records : Tbl 48 Record
  index : List (Pos × List Byte)
deriving DecidableEq, Repr

/-! ## Test Plan Store -/

/-- What a point holds for its own method (R30, R31); limits are (limit, spread limit) by class. Times are in seconds. -/
inductive PointBody
  | error (n repetitions timeout : Nat) (limits : Tbl 4 (Nat × Nat))
  | start (window required : Nat)
  | creep (window allowed : Nat)
deriving DecidableEq, Repr

/-- A test point of the plan (R29). -/
structure Point where
  load : BitVec 12
  settle : Nat
  pauseAfter : Bool
  body : PointBody
deriving DecidableEq, Repr

/-! ## Pulse Front End and Measurement Engine -/

/-- The Pulse Front End, less its settings (R47, R51, R54, R56). -/
structure Front where
  /-- The filter of each meter input, by slot. -/
  filters : Tbl 48 Filter
  /-- The sample rate whose period runs now; a new SAMPLE_RATE takes over at the next sample (R51). -/
  rateNow : Nat
  counter : BitVec 32
  present : Bool
  window : Option Timer
deriving DecidableEq, Repr

/-- The Measurement Engine: the point being measured, if any, and the point timer (R60). -/
structure Engine where
  point : Option Nat
  timer : Option Timer
deriving DecidableEq, Repr

/-! ## Run Controller -/

/-- The sourcing stage (R87). -/
inductive Sourcing
  | latency | awaitReady
deriving DecidableEq, Repr

/-- The run state (R87, R111). -/
inductive RunState
  | idle
  | sourcing (stage : Sourcing)
  | settling
  | measuring
  | held
  | following
deriving DecidableEq, Repr

/-- The Run Controller with its lines (R87, R89, R112, R113, R203). -/
structure Run where
  state : RunState
  index : Nat
  measured : Bool
  members : PosSet
  done : PosSet
  hold : Bool
  ending : Ending
  latency : Option Timer
  source : Option Timer
  settle : Option Timer
  guard : Option Timer
  holdOff : Option Timer
  /-- Running while PHASE has been low for less than 3 ms since its last fall (R113). -/
  phaseLow : Option Timer
  /-- The code on the LOAD lines (R88). -/
  load : BitVec 12
  /-- A MASTER drives PHASE high (R113). -/
  phaseHigh : Bool
  /-- A SLAVE drives DONE low (R117). -/
  doneLow : Bool
  srcReady : Filter
  phaseLine : Filter
  doneLine : Filter
  /-- The present readings of PHASE and DONE, which a SOLO part reports (R112). -/
  phaseReading : Bool
  doneReading : Bool
deriving DecidableEq, Repr

/-! ## Tag Stock, Closure Queue and Carriage -/

/-- A roll slot (R123). The next number of an EXHAUSTED slot is last + 1. -/
inductive RollSlot
  | empty
  | loaded (first last next : Nat)
  | exhausted (first last : Nat)
deriving DecidableEq, Repr

/-- The stage of a move (R142). -/
inductive MoveStage
  | stepping | dwell
deriving DecidableEq, Repr

/-- A move of the carriage, with its two ramp counts (R142, R146). -/
structure Move where
  stage : MoveStage
  target : Nat
  length : Nat
  taken : Nat
  forward : Bool
  startRamp : Nat
  stopRamp : Nat
deriving DecidableEq, Repr

/-- The unit state (R142), with what it holds only while it lasts. -/
inductive UnitState
  | unhomed
  | homing
  | idle
  | moving (move : Move)
  | pressing (target : Nat)
  | fault
deriving DecidableEq, Repr

/-- The last fault of the closure unit (R142). -/
inductive LastFault
  | none
  | homeTimeout
  | pressStuck (position : Pos)
  | pressTimeout (position : Pos)
deriving DecidableEq, Repr

/-- The Closure Queue (R133) and the closure unit (R142, R144). -/
structure Closure where
  queue : List Pos
  tagInPress : Option Nat
  unit : UnitState
  stepCount : Nat
  tally : Nat
  exIndex : Nat
  energised : Bool
  /-- PRESS is asserted. -/
  press : Bool
  stepTimer : Option Timer
  dwellTimer : Option Timer
  pressTimer : Option Timer
  lastFault : LastFault
  home : Filter
  pressDone : Filter
deriving DecidableEq, Repr

/-! ## Operator Panel -/

/-- The panel mode (R162). -/
inductive PanelMode
  | none | load | close | remove
deriving DecidableEq, Repr

/-- The duties, 0..255, of a lamp's red and green elements (R173). -/
structure Lamp where
  red : Nat
  green : Nat
deriving DecidableEq, Repr

/-- The Operator Panel (R162, R163, R165). -/
structure Panel where
  keys : Tbl 56 Filter
  /-- The keys whose press was confirmed in the present full scan (R165). -/
  scanPresses : BitVec 56
  /-- A press of the present full scan was held down across a BENCH_CLEAR: it does not act (R176). -/
  scanBarred : Bool
  /-- The column slot the panel is in (R163). -/
  column : Fin 8
  mode : PanelMode
  modeTimer : Option Timer
  clock : Nat
  flashes : Tbl 48 (Option Timer)
  lampTest : Option Timer
  /-- What the six lamp rows are driven with in the present column slot (R163, R173). -/
  drive : Tbl 6 Lamp
deriving DecidableEq, Repr

/-! ## The whole part -/

/-- The state of the part, and the commands that wait for it. -/
structure State where
  straps : Straps
  settings : Settings
  link : Link
  attn : Attention
  table : Table
  plan : List Point
  front : Front
  engine : Engine
  run : Run
  stock : Tbl 4 RollSlot
  closure : Closure
  panel : Panel
  pending : List Instr
deriving DecidableEq, Repr

/-! ## The state after full reset -/

/-- The settings' defaults. -/
def Settings.default : Settings where
  orient := .normal
  sampleRate := 1
  refSelect := .refA
  refWindow := 100
  srcLatency := 100
  srcTimeout := 30
  restCode := 0
  excitation := .half
  stepStart := 8
  stepRun := 2
  rampSteps := 16
  pitch := 400
  homeOffset := 200
  travel := 19500
  pressDwell := 50
  pressTimeout := 2000
  stockLow := 20
  panelTimeout := 10
  brightness := 12
  attnMask := 63

/-- R178. -/
def Link.initial : Link where
  receiver := .idle
  gap := false
  quiet := false
  response := none
  txen := false
  rxWait := .afterReset
  cursor := 0
  mark := 0
  edit := false

/-- R198: nothing pending, nothing in service, ATN released. -/
def Attention.clear : Attention where
  stockLow := none
  operator := none
  closed := none
  pointEnd := none
  runEnd := none
  fault := none
  inService := 0
  atn := false

/-- A VACANT record (R26). -/
def Record.vacant : Record where
  state := .vacant
  identity := none
  results := []
  context := none
  closure := none
  spoiled := none

/-- R26. -/
def Table.empty : Table where
  records := Tbl.fill 48 Record.vacant
  index := []

/-- A filter before its first sample. DESIGN CHOICE (log 8): the level before it is low, or UP. -/
def Filter.unseeded : Filter := ⟨false, false, false⟩

/-- R59. -/
def Front.initial : Front where
  filters := Tbl.fill 48 Filter.unseeded
  rateNow := 1
  counter := 0
  present := false
  window := none

/-- R60. -/
def Engine.initial : Engine := ⟨none, none⟩

/-- R87, R110, R122. -/
def Run.initial : Run where
  state := .idle
  index := 0
  measured := false
  members := 0
  done := 0
  hold := false
  ending := .none
  latency := none
  source := none
  settle := none
  guard := none
  holdOff := none
  phaseLow := none
  load := 0
  phaseHigh := false
  doneLow := false
  srcReady := Filter.unseeded
  phaseLine := Filter.unseeded
  doneLine := Filter.unseeded
  phaseReading := false
  doneReading := false

/-- R141, R161. -/
def Closure.initial : Closure where
  queue := []
  tagInPress := none
  unit := .unhomed
  stepCount := 0
  tally := 0
  exIndex := 0
  energised := false
  press := false
  stepTimer := none
  dwellTimer := none
  pressTimer := none
  lastFault := .none
  home := Filter.unseeded
  pressDone := Filter.unseeded

/-- R176. -/
def Panel.initial : Panel where
  keys := Tbl.fill 56 Filter.unseeded
  scanPresses := 0
  scanBarred := false
  column := 0
  mode := .none
  modeTimer := none
  clock := 0
  flashes := Tbl.fill 48 none
  lampTest := none
  drive := Tbl.fill 6 ⟨0, 0⟩

/-- Every block at its value after full reset, with the straps read and the given commands waiting. -/
def State.initial (straps : Straps) (pending : List Instr) : State where
  straps := straps
  settings := Settings.default
  link := Link.initial
  attn := Attention.clear
  table := Table.empty
  plan := []
  front := Front.initial
  engine := Engine.initial
  run := Run.initial
  stock := Tbl.fill 4 RollSlot.empty
  closure := Closure.initial
  panel := Panel.initial
  pending := pending

/-- The part right after reset. DESIGN CHOICE (log 7): all straps read 0, that is station 0, SOLO, 19,200 baud. -/
def State.reset : State := State.initial ⟨0, .solo, 0⟩ []

/-! ## Replacing one block -/

/-- The settings replaced. -/
def State.setSettings (s : State) (v : Settings) : State := { s with settings := v }
/-- The bench link replaced. -/
def State.setLink (s : State) (v : Link) : State := { s with link := v }
/-- The attention controller replaced. -/
def State.setAttn (s : State) (v : Attention) : State := { s with attn := v }
/-- The position table replaced. -/
def State.setTable (s : State) (v : Table) : State := { s with table := v }
/-- The plan replaced. -/
def State.setPlan (s : State) (v : List Point) : State := { s with plan := v }
/-- The front end replaced. -/
def State.setFront (s : State) (v : Front) : State := { s with front := v }
/-- The engine replaced. -/
def State.setEngine (s : State) (v : Engine) : State := { s with engine := v }
/-- The run controller replaced. -/
def State.setRun (s : State) (v : Run) : State := { s with run := v }
/-- The roll slots replaced. -/
def State.setStock (s : State) (v : Tbl 4 RollSlot) : State := { s with stock := v }
/-- The queue and closure unit replaced. -/
def State.setClosure (s : State) (v : Closure) : State := { s with closure := v }
/-- The panel replaced. -/
def State.setPanel (s : State) (v : Panel) : State := { s with panel := v }

end Sys2Proof.Machine
end

