-- ==== Sys2Proof/Machine/Operands.lean ====
section
/-! DEFINITION. Operand forms: byte order, the codes of enumerated fields, the test point form, and the parameters of every request
(11, Frame and Record Formats). -/

namespace Sys2Proof.Machine

/-! ## Byte order -/

/-- `w` bytes of a number, most significant first (11, opening). -/
def be : Nat → Nat → List Byte
  | 0, _ => []
  | w + 1, n => BitVec.ofNat 8 (n / 256 ^ w) :: be w n

/-- A signed number in `w` bytes of two's complement. -/
def beInt (w : Nat) (i : Int) : List Byte := be w (i % (256 ^ w : Nat)).toNat

/-- The number that bytes spell, most significant first. -/
def ofBe (bytes : List Byte) : Nat := bytes.foldl (fun a b => a * 256 + b.toNat) 0

/-- A position set in its six bytes, position 0 in the least significant bit of the last (R202). -/
def setBytes (s : PosSet) : List Byte := be 6 s.toNat

/-- One byte that holds a small number. -/
def byte (n : Nat) : Byte := BitVec.ofNat 8 n

/-- 0 or 1 at a bit place of a flags byte. -/
def bit (b : Bool) (place : Nat) : Nat := if b then 2 ^ place else 0

/-! ## Codes of enumerated fields (R200, R202, 00 Conventions) -/

def Status.code : Status → Byte
  | .ok => 0x00 | .clamped => 0x01 | .unknown => 0x10 | .badLength => 0x11 | .outOfRange => 0x12 | .wrongState => 0x13
  | .busy => 0x14 | .duplicate => 0x15 | .notFound => 0x16 | .noStock => 0x17 | .overlap => 0x18 | .mismatch => 0x19
  | .unreported => 0x1A | .outOfReach => 0x1B | .verdictsHeld => 0x1C

def Role.code : Role → Byte
  | .solo => 0 | .master => 1 | .slave => 2

/-- The role that ROLE1, ROLE0 strap (R111). -/
def Role.ofStraps (roles : BitVec 2) : Role :=
  match roles.toNat with
  | 1 => .master
  | 2 => .slave
  | _ => .solo

def PosState.code : PosState → Byte
  | .vacant => 0 | .mounted => 1 | .ready => 2 | .active => 3 | .passed => 4 | .failed => 5 | .closing => 6 | .closed => 7

def Sense.code : Sense → Byte
  | .rising => 0 | .falling => 1

/-- The sense a byte codes; any byte above 1 is out of range (R11, R199). -/
def Sense.ofByte (b : Byte) : Option Sense :=
  match b.toNat with
  | 0 => some .rising
  | 1 => some .falling
  | _ => none

/-- The class a byte carries, 0..3 (R11). -/
def classOfByte (b : Byte) : Option (Fin 4) :=
  if h : b.toNat < 4 then some ⟨b.toNat, h⟩ else none

def Method.code : Method → Byte
  | .error => 0 | .start => 1 | .creep => 2

def PointOutcome.code : PointOutcome → Byte
  | .notRun => 0 | .pass => 1 | .fail => 2 | .noPulse => 3 | .noReference => 4 | .excluded => 5 | .cut => 6

def Phase.code : Phase → Byte
  | .awaitEdge => 0 | .gateOpen => 1 | .done => 2

def RunState.code : RunState → Byte
  | .idle => 0 | .sourcing _ => 1 | .settling => 2 | .measuring => 3 | .held => 4 | .following => 5

/-- The sourcing stage, LATENCY outside SOURCING (R109). -/
def RunState.stageCode : RunState → Byte
  | .sourcing .awaitReady => 1
  | _ => 0

def Ending.code : Ending → Byte
  | .none => 0 | .complete => 1 | .aborted => 2 | .emptied => 3

def RollSlot.code : RollSlot → Byte
  | .empty => 0 | .loaded .. => 1 | .exhausted .. => 2

def UnitState.code : UnitState → Byte
  | .unhomed => 0 | .homing => 1 | .idle => 2 | .moving _ => 3 | .pressing _ => 4 | .fault => 5

def MoveStage.code : MoveStage → Byte
  | .stepping => 0 | .dwell => 1

def LastFault.code : LastFault → Byte
  | .none => 0 | .homeTimeout => 1 | .pressStuck _ => 2 | .pressTimeout _ => 3

/-- The position byte of the last fault, 0xFF when it names none (R202). -/
def LastFault.positionByte : LastFault → Byte
  | .pressStuck p => byte p.val
  | .pressTimeout p => byte p.val
  | _ => 0xFF

def Excitation.code : Excitation → Nat
  | .full => 0 | .half => 1

def Orientation.code : Orientation → Nat
  | .normal => 0 | .mirrored => 1

def refCode : RefInput → Nat
  | .refA => 0 | .refB => 1

/-! ## The test point form (R32, R201) -/

/-- The number in `w` bytes from place `i` of a form. -/
def fieldAt (bytes : List Byte) (i w : Nat) : Nat := ofBe ((bytes.drop i).take w)

/-- The form that 43 bytes carry (R201). -/
def pointFormOfBytes (b : List Byte) : PointForm where
  method := BitVec.ofNat 8 (fieldAt b 0 1)
  load := BitVec.ofNat 16 (fieldAt b 1 2)
  settle := BitVec.ofNat 32 (fieldAt b 3 4)
  pauseAfter := BitVec.ofNat 8 (fieldAt b 7 1)
  n := BitVec.ofNat 16 (fieldAt b 8 2)
  repetitions := BitVec.ofNat 8 (fieldAt b 10 1)
  timeout := BitVec.ofNat 16 (fieldAt b 11 2)
  limits := Tbl.ofFn fun k => (BitVec.ofNat 24 (fieldAt b (13 + 6 * k.val) 3), BitVec.ofNat 24 (fieldAt b (16 + 6 * k.val) 3))
  startWindow := BitVec.ofNat 16 (fieldAt b 37 2)
  required := BitVec.ofNat 8 (fieldAt b 39 1)
  creepWindow := BitVec.ofNat 16 (fieldAt b 40 2)
  allowed := BitVec.ofNat 8 (fieldAt b 42 1)

/-- The 43 bytes of a form (R201). -/
def pointFormBytes (f : PointForm) : List Byte :=
  be 1 f.method.toNat ++ be 2 f.load.toNat ++ be 4 f.settle.toNat ++ be 1 f.pauseAfter.toNat ++ be 2 f.n.toNat ++
    be 1 f.repetitions.toNat ++ be 2 f.timeout.toNat ++
    f.limits.cells.flatMap (fun l => be 3 l.1.toNat ++ be 3 l.2.toNat) ++
    be 2 f.startWindow.toNat ++ be 1 f.required.toNat ++ be 2 f.creepWindow.toNat ++ be 1 f.allowed.toNat

/-- A form with every place zero. -/
def zeroForm : PointForm where
  method := 0
  load := 0
  settle := 0
  pauseAfter := 0
  n := 0
  repetitions := 0
  timeout := 0
  limits := Tbl.fill 4 (0, 0)
  startWindow := 0
  required := 0
  creepWindow := 0
  allowed := 0

/-- `n` lies in `lo..hi`. -/
def within (lo hi n : Nat) : Bool := decide (lo ≤ n) && decide (n ≤ hi)

/-- The method fields of a form, if the method is one of the three and they are in range (R32). -/
def pointBodyOf (f : PointForm) : Option PointBody :=
  match f.method.toNat with
  | 0 =>
    if within 1 1000 f.n.toNat && within 1 8 f.repetitions.toNat && within 1 3600 f.timeout.toNat &&
        f.limits.all (fun l => within 0 Config.ppmMax l.1.toNat && within 0 Config.ppmMax l.2.toNat) then
      some (.error f.n.toNat f.repetitions.toNat f.timeout.toNat (f.limits.mapIdx fun _ l => (l.1.toNat, l.2.toNat)))
    else none
  | 1 =>
    if within 1 3600 f.startWindow.toNat && within 1 3 f.required.toNat then
      some (.start f.startWindow.toNat f.required.toNat)
    else none
  | 2 =>
    if within 1 3600 f.creepWindow.toNat && within 0 3 f.allowed.toNat then
      some (.creep f.creepWindow.toNat f.allowed.toNat)
    else none
  | _ => none

/-- The point a form carries, if every field the Store examines is in range (R32). -/
def pointOf (f : PointForm) : Option Point :=
  if within 0 4095 f.load.toNat && within 0 600000 f.settle.toNat && within 0 1 f.pauseAfter.toNat then
    (pointBodyOf f).map fun body =>
      { load := BitVec.ofNat 12 f.load.toNat, settle := f.settle.toNat, pauseAfter := f.pauseAfter == 1, body := body }
  else none

/-- The form in which PLAN_READ returns a point: the places of the other two methods are zero (R38, R201). -/
def formOfPoint (p : Point) : PointForm :=
  let common := { zeroForm with load := p.load.setWidth 16, settle := BitVec.ofNat 32 p.settle, pauseAfter := byte (bit p.pauseAfter 0) }
  match p.body with
  | .error n reps timeout limits =>
    { common with
      method := 0, n := BitVec.ofNat 16 n, repetitions := byte reps, timeout := BitVec.ofNat 16 timeout,
      limits := limits.mapIdx fun _ l => (BitVec.ofNat 24 l.1, BitVec.ofNat 24 l.2) }
  | .start window required =>
    { common with method := 1, startWindow := BitVec.ofNat 16 window, required := byte required }
  | .creep window allowed =>
    { common with method := 2, creepWindow := BitVec.ofNat 16 window, allowed := byte allowed }

/-- The method a point asks (R29). -/
def PointBody.method : PointBody → Method
  | .error .. => .error
  | .start .. => .start
  | .creep .. => .creep

/-- The timeout or window of a point, in milliseconds (R61, R113). -/
def PointBody.durationMs : PointBody → Nat
  | .error _ _ timeout _ => timeout * 1000
  | .start window _ => window * 1000
  | .creep window _ => window * 1000

/-! ## Requests and their parameters (11, section 11.2) -/

/-- A request with its parameters. -/
inductive Request
  | identify
  | set (id : Byte) (value : BitVec 32)
  | get (id : Byte)
  | benchClear
  | attend
  | attendDone (level : Byte)
  | mount (position : Byte) (mr : BitVec 32) (sense cls : Byte) (serial : List Byte)
  | confirm (position : Byte)
  | setMeter (position : Byte) (mr : BitVec 32) (sense cls : Byte)
  | readRecord (position section_ : Byte)
  | find (serial : List Byte)
  | retire (position : Byte)
  | retest (position : Byte)
  | exclude (position : Byte)
  | ackTag (position : Byte) (tag : BitVec 32)
  | ackSpoiled (position : Byte) (tag : BitVec 32)
  | cursorSet (cursor : Byte)
  | readNext (count : Byte)
  | editBegin
  | editEnd
  | setMeterNext (mr : BitVec 32) (sense cls : Byte)
  | planClear
  | planAppend (point : PointForm)
  | planReplace (place : Byte) (point : PointForm)
  | planRead (place : Byte)
  | planTruncate (length : Byte)
  | runStart
  | runHold
  | runResume
  | runAbort
  | runStatus
  | rollLoad (slot : Byte) (first last : BitVec 32)
  | rollDrop (slot : Byte)
  | stockRead
  | close (position : Byte)
  | closeCancel (position : Byte)
  | queueRead (start : Byte)
  | carriageHome
  | closureClear
  | closureStatus
deriving DecidableEq, Repr

/-- The request code (11, section 11.2). -/
def Request.code : Request → Nat
  | .identify => 0x01 | .set .. => 0x02 | .get .. => 0x03 | .benchClear => 0x04 | .attend => 0x08 | .attendDone .. => 0x09
  | .mount .. => 0x20 | .confirm .. => 0x21 | .setMeter .. => 0x22 | .readRecord .. => 0x23 | .find .. => 0x24
  | .retire .. => 0x25 | .retest .. => 0x26 | .exclude .. => 0x27 | .ackTag .. => 0x28 | .ackSpoiled .. => 0x29
  | .cursorSet .. => 0x2A | .readNext .. => 0x2B | .editBegin => 0x2C | .editEnd => 0x2D | .setMeterNext .. => 0x2E
  | .planClear => 0x30 | .planAppend .. => 0x31 | .planReplace .. => 0x32 | .planRead .. => 0x33 | .planTruncate .. => 0x34
  | .runStart => 0x40 | .runHold => 0x41 | .runResume => 0x42 | .runAbort => 0x43 | .runStatus => 0x44
  | .rollLoad .. => 0x50 | .rollDrop .. => 0x51 | .stockRead => 0x52 | .close .. => 0x53 | .closeCancel .. => 0x54
  | .queueRead .. => 0x55 | .carriageHome => 0x56 | .closureClear => 0x57 | .closureStatus => 0x58

/-- The codes of the requests that may be broadcast (R182). -/
def mayBroadcast (code : Nat) : Bool :=
  [0x02, 0x04, 0x30, 0x31, 0x32, 0x34, 0x41, 0x42, 0x43].contains code

/-- The parameter bytes of a request, in order (11, section 11.2). -/
def Request.params : Request → List Byte
  | .identify => []
  | .set id value => id :: be 4 value.toNat
  | .get id => [id]
  | .benchClear => []
  | .attend => []
  | .attendDone level => [level]
  | .mount position mr sense cls serial =>
    position :: (be 4 mr.toNat ++ [sense, cls, byte serial.length] ++ serial)
  | .confirm position => [position]
  | .setMeter position mr sense cls => position :: (be 4 mr.toNat ++ [sense, cls])
  | .readRecord position sec => [position, sec]
  | .find serial => byte serial.length :: serial
  | .retire position => [position]
  | .retest position => [position]
  | .exclude position => [position]
  | .ackTag position tag => position :: be 4 tag.toNat
  | .ackSpoiled position tag => position :: be 4 tag.toNat
  | .cursorSet cursor => [cursor]
  | .readNext count => [count]
  | .editBegin => []
  | .editEnd => []
  | .setMeterNext mr sense cls => be 4 mr.toNat ++ [sense, cls]
  | .planClear => []
  | .planAppend point => pointFormBytes point
  | .planReplace place point => place :: pointFormBytes point
  | .planRead place => [place]
  | .planTruncate length => [length]
  | .runStart => []
  | .runHold => []
  | .runResume => []
  | .runAbort => []
  | .runStatus => []
  | .rollLoad slot first last => slot :: (be 4 first.toNat ++ be 4 last.toNat)
  | .rollDrop slot => [slot]
  | .stockRead => []
  | .close position => [position]
  | .closeCancel position => [position]
  | .queueRead start => [start]
  | .carriageHome => []
  | .closureClear => []
  | .closureStatus => []

/-- What the command and length checks of R182 make of a frame. -/
inductive Parsed
  | unknown
  | badLength
  | request (r : Request)
deriving DecidableEq, Repr

/-- A request without parameters. -/
def parse0 (ps : List Byte) (r : Request) : Parsed :=
  match ps with
  | [] => .request r
  | _ => .badLength

/-- A request of one byte. -/
def parse1 (ps : List Byte) (f : Byte → Request) : Parsed :=
  match ps with
  | [a] => .request (f a)
  | _ => .badLength

/-- A 32-bit field from its four bytes. -/
def word (a b c d : Byte) : BitVec 32 := BitVec.ofNat 32 (ofBe [a, b, c, d])

/-- A position byte and a 32-bit field. -/
def parse14 (ps : List Byte) (f : Byte → BitVec 32 → Request) : Parsed :=
  match ps with
  | [p, a, b, c, d] => .request (f p (word a b c d))
  | _ => .badLength

/-- MOUNT: the fixed part of 8 bytes, and as many characters as the length byte says (R182, R199). -/
def parseMount (ps : List Byte) : Parsed :=
  match ps with
  | p :: a :: b :: c :: d :: sense :: cls :: n :: serial =>
    if serial.length = n.toNat then .request (.mount p (word a b c d) sense cls serial) else .badLength
  | _ => .badLength

/-- FIND: the length byte, and as many characters as it says (R182, R199). -/
def parseFind (ps : List Byte) : Parsed :=
  match ps with
  | n :: serial => if serial.length = n.toNat then .request (.find serial) else .badLength
  | _ => .badLength

/-- The request a frame's CMD and parameters carry: the checks of steps 2 and 3 of R182. -/
def parseRequest (cmd : Byte) (ps : List Byte) : Parsed :=
  match cmd.toNat with
  | 0x01 => parse0 ps .identify
  | 0x02 => parse14 ps .set
  | 0x03 => parse1 ps .get
  | 0x04 => parse0 ps .benchClear
  | 0x08 => parse0 ps .attend
  | 0x09 => parse1 ps .attendDone
  | 0x20 => parseMount ps
  | 0x21 => parse1 ps .confirm
  | 0x22 =>
    match ps with
    | [p, a, b, c, d, sense, cls] => .request (.setMeter p (word a b c d) sense cls)
    | _ => .badLength
  | 0x23 =>
    match ps with
    | [p, sec] => .request (.readRecord p sec)
    | _ => .badLength
  | 0x24 => parseFind ps
  | 0x25 => parse1 ps .retire
  | 0x26 => parse1 ps .retest
  | 0x27 => parse1 ps .exclude
  | 0x28 => parse14 ps .ackTag
  | 0x29 => parse14 ps .ackSpoiled
  | 0x2A => parse1 ps .cursorSet
  | 0x2B => parse1 ps .readNext
  | 0x2C => parse0 ps .editBegin
  | 0x2D => parse0 ps .editEnd
  | 0x2E =>
    match ps with
    | [a, b, c, d, sense, cls] => .request (.setMeterNext (word a b c d) sense cls)
    | _ => .badLength
  | 0x30 => parse0 ps .planClear
  | 0x31 => if ps.length = 43 then .request (.planAppend (pointFormOfBytes ps)) else .badLength
  | 0x32 =>
    match ps with
    | place :: form => if form.length = 43 then .request (.planReplace place (pointFormOfBytes form)) else .badLength
    | _ => .badLength
  | 0x33 => parse1 ps .planRead
  | 0x34 => parse1 ps .planTruncate
  | 0x40 => parse0 ps .runStart
  | 0x41 => parse0 ps .runHold
  | 0x42 => parse0 ps .runResume
  | 0x43 => parse0 ps .runAbort
  | 0x44 => parse0 ps .runStatus
  | 0x50 =>
    match ps with
    | [slot, a, b, c, d, e, f, g, h] => .request (.rollLoad slot (word a b c d) (word e f g h))
    | _ => .badLength
  | 0x51 => parse1 ps .rollDrop
  | 0x52 => parse0 ps .stockRead
  | 0x53 => parse1 ps .close
  | 0x54 => parse1 ps .closeCancel
  | 0x55 => parse1 ps .queueRead
  | 0x56 => parse0 ps .carriageHome
  | 0x57 => parse0 ps .closureClear
  | 0x58 => parse0 ps .closureStatus
  | _ => .unknown

/-- The characters of a request frame after its address: LEN, CMD, the parameters, CHK (R181, R199). -/
def withCheck (bytes : List Byte) : List Byte := bytes ++ [255 - bytes.foldl (· + ·) 0]

/-- The characters a request's frame has after its address. -/
def Request.frame (r : Request) : List Byte :=
  withCheck (byte (r.params.length + 1) :: byte r.code :: r.params)

end Sys2Proof.Machine
end

