-- ==== Sys2Proof/Machine/Flags.lean ====
section
/-! DEFINITION. Computed conditions: input filters, timers, the attention line, and the appearance of lamps. -/

namespace Sys2Proof.Machine

/-! ## Two-sample filters (R47, R89, R112, R144, R164) -/

/-- The filter after a sample: seeded by the first, then confirmed by two in a row. -/
def sampleFilter (f : Filter) (sample : Bool) : Filter :=
  if !f.seeded then ⟨sample, false, true⟩
  else if sample == f.level then { f with pending := false }
  else if f.pending then ⟨sample, false, true⟩
  else { f with pending := true }

/-- The sample is the confirming sample of a change to its value. -/
def confirms (f : Filter) (sample : Bool) : Bool := f.seeded && f.pending && (sample != f.level)

/-- The filter right after a confirmed change to a level. -/
def confirmed (level : Bool) : Filter := ⟨level, false, true⟩

/-- A confirmed change to `level` can come: the filter does not already hold it (log 4). Before the first reading after full reset
either change can come, and acts: the model's choice (R48, R89, R112, R144, R164; log 30). -/
def canChange (f : Filter) (level : Bool) : Bool := !f.seeded || (f.level != level)

/-! ## Timers on the time base (R1) -/

/-- A timer started with a length in milliseconds. -/
def startTimer (ms : Nat) : Option Timer := some ⟨ms, ms⟩

/-- The timer one tick later; at 0 it is due, and stays so until its expiry is taken (log 3). -/
def tickTimer (t : Option Timer) : Option Timer := t.map fun t => { t with left := t.left - 1 }

/-- The timer runs and its length has passed: its expiry may be taken (R1; log 3). -/
def isDue (t : Option Timer) : Bool := t.any fun t => t.left == 0

/-! ## Attention (R194 to R197) -/

/-- The pending classes; level L is bit L - 1. -/
def pendingClasses (a : Attention) : BitVec 6 :=
  BitVec.ofNat 6 (bit a.stockLow.isSome 0 + bit a.operator.isSome 1 + bit a.closed.isSome 2 + bit a.pointEnd.isSome 3 +
    bit a.runEnd.isSome 4 + bit a.fault.isSome 5)

/-- The highest level in a set of levels, 0 when it is empty. -/
def topLevel (levels : BitVec 6) : Nat :=
  if levels.getLsbD 5 then 6
  else if levels.getLsbD 4 then 5
  else if levels.getLsbD 3 then 4
  else if levels.getLsbD 2 then 3
  else if levels.getLsbD 1 then 2
  else if levels.getLsbD 0 then 1
  else 0

/-- The level that calls the host: the highest enabled pending class above every class in service, 0 when there is none
(R195, R196). -/
def callingLevel (mask : BitVec 6) (a : Attention) : Nat :=
  let top := topLevel (pendingClasses a &&& mask)
  if topLevel a.inService < top then top else 0

/-- ATN set afresh (R195). -/
def driveAtn (mask : BitVec 6) (a : Attention) : Attention := { a with atn := decide (callingLevel mask a ≠ 0) }

/-- The controller's new content taken, with ATN set afresh. -/
def putAttn (s : State) (a : Attention) : State := s.setAttn (driveAtn s.settings.attnMask a)

/-- A FAULT raise: the kind and the positions join the detail (R194). -/
def raiseFault (kind : BitVec 7) (positions : PosSet) (s : State) : State :=
  let old := s.attn.fault.getD ⟨0, 0⟩
  putAttn s { s.attn with fault := some ⟨old.kinds ||| kind, old.positions ||| positions⟩ }

/-- The FAULT kinds at their bits of R202. -/
def sourceTimeoutKind : BitVec 7 := 0x01
def sourceLostKind : BitVec 7 := 0x02
def refLostKind : BitVec 7 := 0x04
def cascadeCutKind : BitVec 7 := 0x08
def pressTimeoutKind : BitVec 7 := 0x10
def pressStuckKind : BitVec 7 := 0x20
def homeTimeoutKind : BitVec 7 := 0x40

/-- A RUN_END raise: the kind is the last one (R194). -/
def raiseRunEnd (ending : Ending) (s : State) : State := putAttn s { s.attn with runEnd := some ending }

/-- A POINT_END raise: the index is the last one, the sets are joined (R98, R194). -/
def raisePointEnd (index : Nat) (short : PosSet) (s : State) : State :=
  let old := (s.attn.pointEnd.getD ⟨0, 0⟩).short
  putAttn s { s.attn with pointEnd := some ⟨index, old ||| short⟩ }

/-- A CLOSED raise (R154, R194). -/
def raiseClosed (positions : PosSet) (s : State) : State :=
  putAttn s { s.attn with closed := some (s.attn.closed.getD 0 ||| positions) }

/-- An OPERATOR raise: each set is joined with the new one (R175, R194). -/
def raiseOperator (news : OperatorNews) (s : State) : State :=
  let old := s.attn.operator.getD ⟨0, 0, 0⟩
  putAttn s { s.attn with
    operator := some ⟨old.loaded ||| news.loaded, old.removed ||| news.removed, old.blocked ||| news.blocked⟩ }

/-- A STOCK_LOW raise: the count is the last one (R131, R194). -/
def raiseStockLow (count : Nat) (s : State) : State := putAttn s { s.attn with stockLow := some count }

/-! ## Lamps (R171 to R174) -/

/-- The pattern of a lamp (R172). -/
inductive Pattern
  | off | steady | quarter | slow | fast | breathing
deriving DecidableEq, Repr

/-- What a lamp shows: which elements, and the pattern (R171). -/
structure Appearance where
  red : Bool
  green : Bool
  pattern : Pattern
deriving DecidableEq, Repr

/-- The appearance a record gives its lamp (R171). -/
def recordAppearance (r : Record) : Appearance :=
  match r.state with
  | .vacant => ⟨false, false, .off⟩
  | .mounted => ⟨true, true, .slow⟩
  | .ready => ⟨true, true, .steady⟩
  | .active => ⟨true, true, .breathing⟩
  | .passed => if r.spoiled.isSome then ⟨true, false, .fast⟩ else ⟨false, true, .steady⟩
  | .failed => ⟨true, false, .steady⟩
  | .closing => ⟨false, true, .breathing⟩
  | .closed => if r.closure.any (·.acknowledged) then ⟨false, true, .quarter⟩ else ⟨false, true, .slow⟩

/-- The intensity a pattern gives at clock value `t` (R172). -/
def intensity (pattern : Pattern) (peak t : Nat) : Nat :=
  match pattern with
  | .off => 0
  | .steady => peak
  | .quarter => peak / 4
  | .slow => if t % 1000 < 500 then peak else 0
  | .fast => if t % 250 < 125 then peak else 0
  | .breathing => if t < 1000 then peak * t / 1000 else peak * (2000 - t) / 1000

/-- The duty of an intensity (R173). -/
def duty (i : Nat) : Nat := i * i / 255

/-- What a lamp of an appearance is driven with (R173). -/
def lampOf (a : Appearance) (brightness t : Nat) : Lamp :=
  let d := duty (intensity a.pattern (17 * brightness) t)
  ⟨if a.red then d else 0, if a.green then d else 0⟩

end Sys2Proof.Machine
end

