-- ==== Sys2Proof/Machine/Ops.lean ====
section
/-! DEFINITION. The named operations the meanings are built of: answering a request, reading and writing records, the mapping of
positions to slots, the counts of the tag stock, and what the run controller and the measurement engine do at each boundary. -/

namespace Sys2Proof.Machine

/-! ## Taking a request and answering it (R180 to R184) -/

/-- The link once a request frame has been taken: its address cancelled any pending response (R183), the receiver is back in IDLE.
That the receiver took the frame says that RXD had been high long enough (log 1). -/
def takenLink (l : Link) : Link :=
  { l with receiver := .idle, gap := false, quiet := false, response := none, rxWait := .none }

/-- The response put up, with the quiet timer running (R183). -/
def respond (r : State × Reply) : State := r.1.setLink { r.1.link with response := some r.2, quiet := true }

/-- A request taken by the receiver: executed and answered when addressed; executed without an answer when broadcast and allowed to be
(R182, R184); nothing at all while a response is being sent (R180). -/
def request (how : Addressing) (code : Nat) (effect : State → State × Reply) (s : State) : State :=
  if s.link.receiver = .responding then s
  else
    let s0 := s.setLink (takenLink s.link)
    match how with
    | .addressed => respond (effect s0)
    | .broadcast => if mayBroadcast code then (effect s0).1 else s0

/-- Answered with a status and no payload. -/
def answer (st : Status) (s : State) : State × Reply := (s, ⟨st, []⟩)

/-- Answered OK with a payload. -/
def answerOk (payload : List Byte) (s : State) : State × Reply := (s, ⟨.ok, payload⟩)

/-! ## Records (R2) -/

/-- The record of a position. -/
def getRec (s : State) (p : Pos) : Record := s.table.records.get p

/-- The record of a position replaced. -/
def putRec (s : State) (p : Pos) (r : Record) : State := s.setTable { s.table with records := s.table.records.set p r }

/-- Every record changed by `f`, which sees its position. -/
def mapRecs (f : Pos → Record → Record) (s : State) : State :=
  s.setTable { s.table with records := s.table.records.mapIdx f }

/-- Some record meets `f`. -/
def anyRec (s : State) (f : Record → Bool) : Bool := s.table.records.any f

/-- The positions whose record meets `f`. -/
def recsWith (s : State) (f : Record → Bool) : PosSet := PosSet.ofPred fun p => f (getRec s p)

/-- The position a byte names; above 47 it names none (R2). -/
def posOfByte (b : Byte) : Option Pos := if h : b.toNat < 48 then some ⟨b.toNat, h⟩ else none

/-- A request on a named position: OUT_OF_RANGE above 47 (R2). -/
def atPosition (b : Byte) (effect : Pos → State → State × Reply) (s : State) : State × Reply :=
  match posOfByte b with
  | some p => effect p s
  | none => answer .outOfRange s

/-- The position of the non-VACANT record that holds a serial, by the index (R9). -/
def indexFind (index : List (Pos × List Byte)) (serial : List Byte) : Option Pos :=
  (index.find? fun e => e.2 == serial).map (·.1)

/-- A serial put into the index at its position's place (R9). -/
def indexInsert (p : Pos) (serial : List Byte) : List (Pos × List Byte) → List (Pos × List Byte)
  | [] => [(p, serial)]
  | e :: rest => if p < e.1 then (p, serial) :: e :: rest else e :: indexInsert p serial rest

/-- A position's serial taken out of the index (R9). -/
def indexErase (p : Pos) (index : List (Pos × List Byte)) : List (Pos × List Byte) :=
  index.filter fun e => e.1 != p

/-- A serial has 1..16 characters of 0x20..0x7E (R10). -/
def serialOk (serial : List Byte) : Bool :=
  within 1 16 serial.length && serial.all fun c => within 0x20 0x7E c.toNat

/-! ## Orientation (R43, R147) -/

/-- The slot of a position; the same mapping gives the position of a slot (R43). -/
def slotOf (o : Orientation) (p : Pos) : Pos :=
  match o with
  | .normal => p
  | .mirrored => p.rev

/-- The press location of a position under given settings, in steps (R147). -/
def pressLocation (v : Settings) (p : Pos) : Nat := v.homeOffset + (slotOf v.orient p).val * v.pitch

/-! ## Counts of the tag stock (R124, R125) -/

/-- The undrawn tags of a slot. -/
def undrawn (slot : RollSlot) : Nat :=
  match slot with
  | .loaded _ last next => last + 1 - next
  | _ => 0

/-- The remaining count (R124). -/
def remaining (stock : Tbl 4 RollSlot) : Nat := (stock.cells.map undrawn).sum

/-- The unserved reservations (R124). -/
def reservations (c : Closure) : Nat := c.queue.length - (if c.tagInPress.isSome then 1 else 0)

/-- A record holds a tag number from `lo` to `hi` (R125). -/
def recordHolds (lo hi : Nat) (r : Record) : Bool :=
  r.closure.any (fun t => within lo hi t.number) || r.spoiled.any (within lo hi)

/-- Some number from `lo` to `hi` is held (R125). -/
def someHeld (s : State) (lo hi : Nat) : Bool :=
  anyRec s (recordHolds lo hi) || s.closure.tagInPress.any (within lo hi)

/-- The low-stock notice: raised when the remaining count fell from above the setting to at or below it (R131). -/
def noteStockFall (before : Nat) (s : State) : State :=
  let now := remaining s.stock
  if s.settings.stockLow < before ∧ now ≤ s.settings.stockLow then raiseStockLow now s else s

/-! ## Results and the arithmetic of an error (R69 to R74) -/

/-- A quotient of whole numbers to the nearest, halves up (R70). -/
def roundNat (n d : Nat) : Nat := if d ≤ 2 * (n % d) then n / d + 1 else n / d

/-- A quotient to the nearest whole number, halves away from zero (R70, R73). -/
def roundDiv (n : Int) (d : Nat) : Int := if n < 0 then -(roundNat n.natAbs d : Int) else roundNat n.natAbs d

/-- D = N x MR - 65,536 x R (R69). -/
def gateDifference (n mr r : Nat) : Int := (n * mr : Nat) - (Config.ratioUnit * r : Nat)

/-- |Q| is greater than 999,999 (R71). -/
def saturates (n mr r : Nat) : Bool :=
  decide (Config.ppmMax * (Config.ratioUnit * r) < (gateDifference n mr r).natAbs * 1000000)

/-- The repetition error in ppm, saturated (R70, R71). -/
def repetitionError (n mr r : Nat) : Int :=
  if saturates n mr r then (if 0 < gateDifference n mr r then Config.ppmMax else -Config.ppmMax)
  else roundDiv (gateDifference n mr r * 1000000) (Config.ratioUnit * r)

/-- The mean of a context's repetitions (R73). -/
def meanOf (c : Context) : Int := roundDiv c.sum c.repetitions

/-- The maximum less the minimum, 0 when they are absent (R73). -/
def spreadOf (c : Context) : Nat :=
  match c.range with
  | some (lo, hi) => (hi - lo).toNat
  | none => 0

/-- The result of an ERROR point with what the member has completed (R73, R78, R83). -/
def errorResult (outcome : PointOutcome) (c : Context) : PointResult where
  outcome := outcome
  method := .error
  repetitions := c.repetitions
  value := if 1 ≤ c.repetitions then some (meanOf c) else none
  spread := if 2 ≤ c.repetitions then some (spreadOf c) else none
  saturated := c.saturated

/-- The result of a START or CREEP point: the pulse count is its value (R5, R80, R81). -/
def countResult (method : Method) (outcome : PointOutcome) (c : Context) : PointResult where
  outcome := outcome
  method := method
  repetitions := 0
  value := some c.pulses
  spread := none
  saturated := false

/-- The judgement of completed repetitions against a limit pair (R74). -/
def judge (limit spreadLimit : Nat) (c : Context) : PointOutcome :=
  if c.saturated then .fail
  else if (meanOf c).natAbs ≤ limit ∧ spreadOf c ≤ spreadLimit then .pass
  else .fail

/-- The entry RUN_START builds for a point (R4). -/
def notRunEntry (method : Method) : PointResult := ⟨.notRun, method, 0, none, none, false⟩

/-- The entry an exclusion writes (R107). -/
def excludedEntry (e : PointResult) : PointResult := ⟨.excluded, e.method, 0, none, none, false⟩

/-- A live context as it is created and as each measurement start sets it up (R6, R61). -/
def freshContext : Context := ⟨.awaitEdge, 0, 0, 0, none, 0, 0, false⟩

/-- The point at the current point index. No run reaches a point index outside the plan (log 18). -/
def currentPoint (s : State) : Option Point := s.plan[s.run.index]?

/-! ## The measurement of a point (R60 to R63, R83) -/

/-- A member not DONE reaches DONE with the given result in entry `i` (R63, R83). -/
def finishMember (i : Nat) (result : Context → PointResult) (r : Record) : Record :=
  match r.context with
  | some c =>
    if r.state = .active ∧ c.phase ≠ .done then
      { r with results := r.results.set i (result c), context := some { c with phase := .done } }
    else r
  | none => r

/-- The result a member not DONE gets when the point timer expires (R78, R80, R81). -/
def expiryResult (body : PointBody) (present : Bool) (c : Context) : PointResult :=
  match body with
  | .error .. => errorResult (if present then .noPulse else .noReference) c
  | .start .. => countResult .start .fail c
  | .creep .. => countResult .creep .pass c

/-- The result a member not DONE gets when the measurement is cut (R83). -/
def cutResult (body : PointBody) (c : Context) : PointResult :=
  match body with
  | .error .. => errorResult .cut c
  | .start .. => countResult .start .cut c
  | .creep .. => countResult .creep .cut c

/-- The measurement of the current point starts: every member's context afresh, the point timer running, the done set empty
(R61, R203). -/
def startMeasurement (point : Point) (s : State) : State :=
  let s := mapRecs (fun _ r => if r.state = .active then { r with context := some freshContext } else r) s
  let s := s.setEngine ⟨some s.run.index, startTimer point.body.durationMs⟩
  s.setRun { s.run with done := 0 }

/-- The engine back in NONE, the point timer stopped, the done set empty, DONE released (R83, R117, R203). -/
def stopEngine (s : State) : State :=
  (s.setEngine ⟨none, none⟩).setRun { s.run with done := 0, doneLow := false }

/-- The measurement stopped with reason CUT: members not DONE get outcome CUT (R83). -/
def cutMeasurement (s : State) : State :=
  match currentPoint s with
  | some point => stopEngine (mapRecs (fun _ => finishMember s.run.index (cutResult point.body)) s)
  | none => stopEngine s

/-! ## Run boundaries (R87 to R108, R113 to R118) -/

/-- PHASE driven low; from a fall on it stays low for 3 ms (R113). -/
def lowerPhase (r : Run) : Run :=
  if r.phaseHigh then { r with phaseHigh := false, phaseLow := startTimer Config.phaseLowMs } else r

/-- Every timer of the run controller stopped, the guard and the hold-off included (R104). -/
def stopRunTimers (r : Run) : Run :=
  { r with latency := none, source := none, settle := none, guard := none, holdOff := none }

/-- The run enters MEASURING (R97); a MASTER raises PHASE and starts its guard and hold-off (R113), a SLAVE drives DONE low
(R116). -/
def enterMeasuring (s : State) : State :=
  match currentPoint s with
  | none => s
  | some point =>
    let s := startMeasurement point s
    let r := { s.run with state := .measuring, measured := true, settle := none }
    match s.straps.role with
    | .solo => s.setRun r
    | .master =>
      s.setRun { r with
        phaseHigh := true, guard := startTimer (point.body.durationMs + Config.guardExtraMs),
        holdOff := startTimer Config.holdOffMs }
    | .slave => s.setRun { r with doneLow := true }

/-- The settle time is over: MEASURING, on a MASTER once PHASE has been low for 3 ms (R95, R113). -/
def settleOver (s : State) : State :=
  let s := s.setRun { s.run with settle := none }
  if s.straps.role = .master ∧ s.run.phaseLow.isSome then s else enterMeasuring s

/-- The run enters SETTLING; a settle time of 0 is over at once (R95). -/
def enterSettling (s : State) : State :=
  match currentPoint s with
  | none => s
  | some point =>
    let r := { s.run with state := .settling, latency := none, source := none }
    if point.settle = 0 then settleOver (s.setRun r) else s.setRun { r with settle := startTimer point.settle }

/-- The look at SRC_READY when the latency is over (R93). -/
def lookAtSource (s : State) : State :=
  if s.run.srcReady.level then enterSettling s
  else s.setRun { s.run with state := .sourcing .awaitReady, latency := none }

/-- The run enters SOURCING for the point at the point index; a latency of 0 makes the look at once (R93). -/
def enterSourcing (s : State) : State :=
  match currentPoint s with
  | none => s
  | some point =>
    let r := { s.run with
      state := .sourcing .latency, load := point.load, source := startTimer (s.settings.srcTimeout * 1000) }
    if s.settings.srcLatency = 0 then lookAtSource (s.setRun r)
    else s.setRun { r with latency := startTimer s.settings.srcLatency }

/-- The next point becomes the current one (R99, R103, R118). -/
def nextPoint (r : Run) : Run := { r with index := r.index + 1, measured := false }

/-- Every member takes its verdict (R100). -/
def formVerdicts (s : State) : State :=
  let members := s.run.members
  mapRecs (fun p r =>
    if members.has p then
      { r with
        state := if r.results.all (fun e => e.outcome = .pass) then .passed else .failed
        context := none }
    else r) s

/-- The last point ended: verdicts, REST_CODE, IDLE, RUN_END COMPLETE (R99, R100, R118). -/
def completeRun (s : State) : State :=
  let s := formVerdicts s
  raiseRunEnd .complete (s.setRun { s.run with
    state := .idle, members := 0, load := s.settings.restCode, hold := false, ending := .complete })

/-- The members whose entry for the current point carries any outcome other than PASS (R98, R118). -/
def shortMembers (s : State) : PosSet :=
  PosSet.ofPred fun p =>
    s.run.members.has p && !((getRec s p).results[s.run.index]?.any fun e => e.outcome = .pass)

/-- The current point was the last of the plan (R99). -/
def atLastPoint (s : State) : Bool := decide (s.plan.length ≤ s.run.index + 1)

/-- What follows a point's end on a SOLO or MASTER (R99). -/
def afterPoint (s : State) : State :=
  if atLastPoint s then completeRun s
  else if (currentPoint s).any (·.pauseAfter) ∨ s.run.hold then
    s.setRun { s.run with state := .held, hold := false }
  else enterSourcing (s.setRun (nextPoint s.run))

/-- The end of a point on a SOLO or MASTER once its measurement has been stopped (R98). -/
def endPoint (s : State) : State :=
  let s := s.setRun (lowerPhase { s.run with guard := none, holdOff := none })
  afterPoint (raisePointEnd s.run.index (shortMembers s) s)

/-- The point-end condition (R97, R114). -/
def pointEndHolds (s : State) : Bool :=
  s.run.state = .measuring && s.run.done == s.run.members &&
    match s.straps.role with
    | .solo => true
    | .master => s.run.holdOff.isNone && s.run.doneLine.level
    | .slave => false

/-- The members or their done set have changed: a SLAVE sets its DONE drive afresh (R117), the others test the point-end
condition (R97). -/
def membersChanged (s : State) : State :=
  match s.straps.role with
  | .slave => s.setRun { s.run with doneLow := s.run.state = .measuring && s.run.done != s.run.members }
  | _ => if pointEndHolds s then endPoint (stopEngine s) else s

/-- The run ends before its plan does: timers stopped, PHASE low, REST_CODE, IDLE, and RUN_END of the kind (R104, R108). -/
def breakOff (ending : Ending) (s : State) : State :=
  let s := stopEngine s
  let r := lowerPhase (stopRunTimers s.run)
  raiseRunEnd ending (s.setRun { r with
    state := .idle, members := 0, hold := false, measured := false, load := s.settings.restCode, ending := ending })

/-- The run aborted: members back to READY, with what they had reached (R104). -/
def abortRun (s : State) : State :=
  let members := s.run.members
  breakOff .aborted (mapRecs (fun p r => if members.has p then { r with state := .ready, context := none } else r) s)

/-! ## Carriage (R145 to R155) -/

/-- The number of places of the excitation pattern (R145). -/
def patternSize (e : Excitation) : Nat :=
  match e with
  | .full => 4
  | .half => 8

/-- The excitation index after a forward or a backward step (R145). -/
def stepIndex (e : Excitation) (forward : Bool) (i : Nat) : Nat :=
  if forward then (i + 1) % patternSize e else (i + patternSize e - 1) % patternSize e

/-- The period of step `k` of a move (R146). -/
def stepPeriod (v : Settings) (m : Move) (k : Nat) : Nat :=
  if k ≤ m.startRamp ∨ m.length < k + m.stopRamp then v.stepStart else v.stepRun

/-- The next step of a move is taken (R145, R146, R151). -/
def takeStep (m : Move) (s : State) : State :=
  let k := m.taken + 1
  s.setClosure { s.closure with
    unit := .moving { m with taken := k }
    stepCount := if m.forward then s.closure.stepCount + 1 else s.closure.stepCount - 1
    exIndex := stepIndex s.settings.excitation m.forward s.closure.exIndex
    stepTimer := startTimer (stepPeriod s.settings m k) }

/-- Every timer of the closure unit stopped, PRESS released, the phases off, and the unit in FAULT (R152, R155, R157). -/
def unitFault (f : LastFault) (c : Closure) : Closure :=
  { c with
    unit := .fault, energised := false, press := false, stepTimer := none, dwellTimer := none, pressTimer := none,
    lastFault := f }

/-- The slot is LOADED (R123). -/
def isLoaded (slot : RollSlot) : Bool :=
  match slot with
  | .loaded .. => true
  | _ => false

/-- The lowest-numbered LOADED slot (R128). -/
def drawSlot (stock : Tbl 4 RollSlot) : Option (Fin 4) :=
  (List.finRange 4).find? fun i => isLoaded (stock.get i)

/-- A slot after its next number has been drawn (R128). -/
def drawnFrom (slot : RollSlot) : RollSlot :=
  match slot with
  | .loaded first last next => if last < next + 1 then .exhausted first last else .loaded first last (next + 1)
  | other => other

/-- The number a slot hands out next (R123). -/
def nextTag (slot : RollSlot) : Nat :=
  match slot with
  | .empty => 0
  | .loaded _ _ next => next
  | .exhausted _ last => last + 1

/-- The press fired for the head entry: PRESS asserted, a tag drawn, the press timer running, PRESSING (R128, R153). A draw always
finds a tag (R129); in a state no run reaches, without one, the press is not fired (log 18). -/
def firePress (target : Nat) (s : State) : State :=
  match drawSlot s.stock with
  | none => s
  | some i =>
    let before := remaining s.stock
    let slot := s.stock.get i
    let s := s.setStock (s.stock.set i (drawnFrom slot))
    let s := s.setClosure { s.closure with
      unit := .pressing target, tagInPress := some (nextTag slot), press := true, dwellTimer := none,
      pressTimer := startTimer s.settings.pressTimeout }
    noteStockFall before s

/-- The look at PRESS_DONE at the end of the dwell (R152). -/
def dwellOver (target : Nat) (s : State) : State :=
  match s.closure.queue with
  | [] => s
  | p :: _ =>
    if s.closure.pressDone.level then
      raiseFault pressStuckKind (PosSet.single p) (s.setClosure (unitFault (.pressStuck p) s.closure))
    else firePress target s

/-- The carriage has arrived: stage DWELL; a dwell of 0 is over at once (R151, R152). -/
def arrive (m : Move) (s : State) : State :=
  let c := { s.closure with unit := .moving { m with stage := .dwell }, stepTimer := none }
  if s.settings.pressDwell = 0 then dwellOver m.target (s.setClosure c)
  else s.setClosure { c with dwellTimer := startTimer s.settings.pressDwell }

/-- The distance between two places of the carriage. -/
def distance (a b : Nat) : Nat := (a - b) + (b - a)

/-- The move to a target from the present step count, with the ramps of RAMP_STEPS (R146, R150). -/
def planMove (v : Settings) (count target : Nat) : Move :=
  let m := distance target count
  { stage := .stepping, target := target, length := m, taken := 0, forward := decide (count < target),
    startRamp := min v.rampSteps ((m + 1) / 2), stopRamp := min v.rampSteps (m / 2) }

/-- The CLOSE_CANCEL of the head entry is the next command waiting, and the receiver can take it: it comes together with the beginning
of the entry's service (R139; log 29). -/
def cancelWaits (s : State) : Bool :=
  match s.pending, s.closure.queue with
  | .closeCancel .addressed b :: _, p :: _ => b.toNat == p.val && s.link.receiver != .responding
  | _, _ => false

/-- An IDLE unit with a non-empty queue begins at once to serve the head entry (R150). Of a CLOSE_CANCEL of that entry that comes together
with this beginning R139 lets either be taken first: the cancel is, as the very next command, and so before any other finds the unit IDLE
(log 29). Of a CARRIAGE_HOME that comes together with it after a CLOSE R148 lets either be taken first too: the beginning of service is,
and the CARRIAGE_HOME is BUSY, the model's choice (log 31). -/
def serve (s : State) : State :=
  match s.closure.unit, s.closure.queue with
  | .idle, p :: _ =>
    if cancelWaits s then s else
    let m := planMove s.settings s.closure.stepCount (pressLocation s.settings p)
    if m.length = 0 then arrive m s else takeStep m s
  | _, _ => s

/-- The carriage found home: the count is 0, the unit IDLE, and service begins if entries wait (R149, R150). -/
def reachHome (s : State) : State :=
  serve (s.setClosure { s.closure with unit := .idle, stepCount := 0, stepTimer := none })

/-- A backward step of homing (R149). -/
def homingStep (s : State) : State :=
  s.setClosure { s.closure with
    tally := s.closure.tally + 1
    exIndex := stepIndex s.settings.excitation false s.closure.exIndex
    stepTimer := startTimer s.settings.stepStart }

/-- The unit enters HOMING (R149). -/
def enterHoming (s : State) : State :=
  let s := s.setClosure { s.closure with unit := .homing, energised := true, tally := 0 }
  if s.closure.home.level then reachHome s else homingStep s

/-! ## Shared requests: what keys and frames both ask for (R23) -/

/-- CONFIRM of a position (R12). -/
def confirmPosition (p : Pos) (s : State) : State × Status :=
  let r := getRec s p
  if r.state = .mounted then (putRec s p { r with state := .ready }, .ok) else (s, .wrongState)

/-- A record taken back to VACANT, its serial out of the index (R17). -/
def vacate (p : Pos) (s : State) : State :=
  let s := putRec s p Record.vacant
  s.setTable { s.table with index := indexErase p s.table.index }

/-- Why RETIRE refuses a record, if it does (R17). -/
def retireRefusal (r : Record) : Option Status :=
  match r.state with
  | .vacant => some .wrongState
  | .active => some .busy
  | .closing => some .busy
  | .passed => if r.spoiled.isSome then some .unreported else none
  | .closed => if r.closure.any (·.acknowledged) then none else some .unreported
  | .mounted => none
  | .ready => none
  | .failed => none

/-- RETIRE of a position (R17). -/
def retirePosition (p : Pos) (s : State) : State × Status :=
  match retireRefusal (getRec s p) with
  | some st => (s, st)
  | none => (vacate p s, .ok)

/-- Why CLOSE refuses a position, if it does (R134). -/
def closeRefusal (p : Pos) (s : State) : Option Status :=
  let r := getRec s p
  if r.state = .closing then some .duplicate
  else if r.state ≠ .passed then some .wrongState
  else if r.spoiled.isSome then some .unreported
  else if s.settings.travel < pressLocation s.settings p then some .outOfReach
  else if remaining s.stock ≤ reservations s.closure then some .noStock
  else none

/-- CLOSE of a position; an IDLE unit then begins service (R134, R150), before a CARRIAGE_HOME that comes together with it (R148; log 31). -/
def closePosition (p : Pos) (s : State) : State × Status :=
  match closeRefusal p s with
  | some st => (s, st)
  | none =>
    let s := putRec s p { getRec s p with state := .closing }
    (serve (s.setClosure { s.closure with queue := s.closure.queue ++ [p] }), .ok)

/-- RUN_HOLD (R101, R119). -/
def holdRun (s : State) : State × Status :=
  if s.straps.role = .slave then (s, .wrongState)
  else
    match s.run.state with
    | .idle => (s, .wrongState)
    | .sourcing _ => (s.setRun { s.run with state := .held, measured := false, latency := none, source := none }, .ok)
    | .settling => (s.setRun { s.run with state := .held, measured := false, settle := none }, .ok)
    | .measuring => (s.setRun { s.run with hold := true }, .ok)
    | .held => (s, .ok)
    | .following => (s, .wrongState)

/-- RUN_RESUME (R103, R119). -/
def resumeRun (s : State) : State × Status :=
  if s.straps.role = .slave then (s, .wrongState)
  else
    match s.run.state with
    | .held => (enterSourcing (if s.run.measured then s.setRun (nextPoint s.run) else s), .ok)
    | _ => (s, .wrongState)

/-- RUN_ABORT, which an IDLE run takes without change (R104, R119). -/
def requestAbort (s : State) : State := if s.run.state = .idle then s else abortRun s

end Sys2Proof.Machine
end

