-- ==== Sys2Proof/Machine/Attend.lean ====
section
/-! DEFINITION. The requests of the Attention Controller, and BENCH_CLEAR (R188, R189, R196, R197). -/

namespace Sys2Proof.Machine

/-- The detail of a class as ATTEND returns it (R202). -/
def detailBytes (level : Nat) (a : Attention) : List Byte :=
  match level with
  | 1 => be 4 (a.stockLow.getD 0)
  | 2 =>
    let d := a.operator.getD ⟨0, 0, 0⟩
    setBytes d.loaded ++ setBytes d.removed ++ setBytes d.blocked
  | 3 => setBytes (a.closed.getD 0)
  | 4 =>
    let d := a.pointEnd.getD ⟨0, 0⟩
    byte d.index :: setBytes d.short
  | 5 => [(a.runEnd.getD .none).code]
  | 6 =>
    let d := a.fault.getD ⟨0, 0⟩
    byte d.kinds.toNat :: setBytes d.positions
  | _ => []

/-- A class with its pending flag and detail cleared (R196). -/
def clearClass (level : Nat) (a : Attention) : Attention :=
  match level with
  | 1 => { a with stockLow := none }
  | 2 => { a with operator := none }
  | 3 => { a with closed := none }
  | 4 => { a with pointEnd := none }
  | 5 => { a with runEnd := none }
  | 6 => { a with fault := none }
  | _ => a

/-- ATTEND (R196). -/
def reqAttend (s : State) : State × Reply :=
  let level := callingLevel s.settings.attnMask s.attn
  if level = 0 then answerOk [0] s
  else
    let a := clearClass level s.attn
    answerOk (byte level :: detailBytes level s.attn)
      (putAttn s { a with inService := a.inService ||| BitVec.twoPow 6 (level - 1) })

/-- ATTEND_DONE (R197). -/
def reqAttendDone (level : Byte) (s : State) : State × Reply :=
  let l := level.toNat
  if !within 1 6 l then answer .outOfRange s
  else if !s.attn.inService.getLsbD (l - 1) then answer .wrongState s
  else answer .ok (putAttn s { s.attn with inService := s.attn.inService &&& ~~~(BitVec.twoPow 6 (l - 1)) })

/-- Why BENCH_CLEAR is refused, if it is (R188). -/
def benchClearRefusal (s : State) : Option Status :=
  if s.run.state ≠ .idle then some .busy
  else if (match s.closure.unit with | .homing => true | .moving _ => true | .pressing _ => true | _ => false) then some .busy
  else if !s.closure.queue.isEmpty then some .busy
  else if anyRec s (fun r => r.state = .closed && !r.closure.any (·.acknowledged)) then some .unreported
  else if anyRec s (fun r => r.state = .passed && r.spoiled.isSome) then some .unreported
  else none

/-- A key pressed in the present full scan is still down (R165). -/
def heldPress (s : State) : Bool := (List.finRange 56).any fun k => s.panel.scanPresses.getLsbD k.val && (s.panel.keys.get k).level

/-- BENCH_CLEAR (R27, R188, R189). A key held down across it does not act at the end of the scan under way, only at its next confirmed
press (R176). -/
def reqBenchClear (s : State) : State × Reply :=
  match benchClearRefusal s with
  | some st => answer st s
  | none =>
    let s := s.setTable Table.empty
    let s := s.setLink { s.link with cursor := 0, mark := 0, edit := false }
    let s := putAttn s Attention.clear
    answer .ok (s.setPanel { s.panel with mode := .none, modeTimer := none, scanBarred := s.panel.scanBarred || heldPress s })

/-! ## The rows -/

/-- ATTEND (R196). -/
def execAttend (how : Addressing) (s : State) : Host.Outcome State Fault Refusal :=
  .next (request how 0x08 reqAttend s)

/-- ATTEND_DONE (R197). -/
def execAttendDone (how : Addressing) (level : Byte) (s : State) : Host.Outcome State Fault Refusal :=
  .next (request how 0x09 (reqAttendDone level) s)

/-- BENCH_CLEAR (R188, R189). -/
def execBenchClear (how : Addressing) (s : State) : Host.Outcome State Fault Refusal :=
  .next (request how 0x04 reqBenchClear s)

end Sys2Proof.Machine
end

