-- ==== Sys2Proof/Machine/RunControl.lean ====
section
/-! DEFINITION. The Run Controller: its requests, the source handshake, and the cascade lines (R91 to R122). -/

namespace Sys2Proof.Machine

/-- A member at its start: ACTIVE, its results list rebuilt, its context new (R4, R6, R91). -/
def joinRun (plan : List Point) (r : Record) : Record :=
  if r.state = .ready then
    { r with state := .active, results := plan.map fun p => notRunEntry p.body.method, context := some freshContext }
  else r

/-- Why RUN_START is refused, if it is (R91, R115). -/
def startRefusal (s : State) : Option Status :=
  if s.run.state ≠ .idle then some .busy
  else if s.straps.role = .slave ∧ s.run.phaseLine.level then some .busy
  else if s.plan = [] then some .wrongState
  else if !anyRec s (fun r => r.state = .ready) then some .wrongState
  else none

/-- RUN_START (R91, R115). -/
def reqRunStart (s : State) : State × Reply :=
  match startRefusal s with
  | some st => answer st s
  | none =>
    let members := recsWith s fun r => r.state = .ready
    let s := mapRecs (fun _ => joinRun s.plan) s
    let s := s.setRun { s.run with index := 0, measured := false, hold := false, members := members, done := 0 }
    answer .ok (if s.straps.role = .slave then s.setRun { s.run with state := .following } else enterSourcing s)

/-- RUN_HOLD (R101). -/
def reqRunHold (s : State) : State × Reply :=
  let r := holdRun s
  answer r.2 r.1

/-- RUN_RESUME (R103). -/
def reqRunResume (s : State) : State × Reply :=
  let r := resumeRun s
  answer r.2 r.1

/-- RUN_ABORT (R104). -/
def reqRunAbort (s : State) : State × Reply := answer .ok (requestAbort s)

/-- The level of a cascade line that RUN_STATUS reports: confirmed on a MASTER and a SLAVE, the present reading on a SOLO (R112). -/
def reportedLevel (role : Role) (line : Filter) (reading : Bool) : Bool :=
  match role with
  | .solo => reading
  | _ => line.level

/-- RUN_STATUS (R109, R202). -/
def reqRunStatus (s : State) : State × Reply :=
  let r := s.run
  let role := s.straps.role
  answerOk ([role.code, r.state.code, r.state.stageCode, byte r.index, byte s.plan.length,
    byte (bit r.measured 0 + bit r.hold 1 + bit r.srcReady.level 2 + bit s.front.present 3 +
      bit (reportedLevel role r.phaseLine r.phaseReading) 4 + bit (reportedLevel role r.doneLine r.doneReading) 5),
    r.ending.code] ++ setBytes r.members ++ setBytes r.done ++ be 2 r.load.toNat) s

/-! ## The source handshake (R89, R93 to R97) -/

/-- A confirmed rise of SRC_READY (R89, R94). -/
def srcReadyRise (s : State) : State :=
  let s := s.setRun { s.run with srcReady := confirmed true }
  if s.straps.role ≠ .slave ∧ s.run.state = .sourcing .awaitReady then enterSettling s else s

/-- The run aborted by a fault of the source: FAULT first, then RUN_END ABORTED (R105). -/
def faultAbort (kind : BitVec 7) (s : State) : State := abortRun (raiseFault kind 0 s)

/-- A confirmed fall of SRC_READY (R89, R95, R97). -/
def srcReadyFall (s : State) : State :=
  let s := s.setRun { s.run with srcReady := confirmed false }
  if s.straps.role = .slave then s
  else
    match s.run.state with
    | .settling =>
      s.setRun { s.run with
        state := .sourcing .awaitReady, settle := none, source := startTimer (s.settings.srcTimeout * 1000) }
    | .measuring => faultAbort sourceLostKind s
    | _ => s

/-- The latency timer, when it is due, expires (R93). -/
def latencyExpiry (s : State) : State :=
  if isDue s.run.latency ∧ s.run.state = .sourcing .latency then lookAtSource s else s

/-- The source timer, when it is due, expires in SOURCING, at either stage (R94). -/
def sourceExpiry (s : State) : State :=
  match s.run.state with
  | .sourcing _ => if isDue s.run.source then faultAbort sourceTimeoutKind s else s
  | _ => s

/-- The settle timer, when it is due, expires (R95). -/
def settleExpiry (s : State) : State :=
  if isDue s.run.settle ∧ s.run.state = .settling then settleOver s else s

/-! ## The cascade (R112 to R118) -/

/-- PHASE has been low for 3 ms: a MASTER whose settle has expired enters MEASURING (R95, R113). -/
def phaseLowEnd (s : State) : State :=
  if isDue s.run.phaseLow then
    let s := s.setRun { s.run with phaseLow := none }
    if s.straps.role = .master ∧ s.run.state = .settling ∧ s.run.settle = none then enterMeasuring s else s
  else s

/-- The hold-off, when it is due, expires: the point-end condition is tested (R113). -/
def holdOffExpiry (s : State) : State :=
  if isDue s.run.holdOff ∧ s.run.state = .measuring then membersChanged (s.setRun { s.run with holdOff := none }) else s

/-- The guard, when it is due, expires: the point ends with reason CUT, and CASCADE_CUT is raised (R98, R114). -/
def guardExpiry (s : State) : State :=
  if isDue s.run.guard ∧ s.run.state = .measuring then endPoint (raiseFault cascadeCutKind 0 (cutMeasurement s)) else s

/-- A confirmed rise of DONE, which a MASTER tests its point-end condition at (R112, R114). -/
def doneLineRise (s : State) : State :=
  let s := s.setRun { s.run with doneLine := confirmed true }
  if s.straps.role = .master then membersChanged s else s

/-- A confirmed fall of DONE (R114). -/
def doneLineFall (s : State) : State := s.setRun { s.run with doneLine := confirmed false }

/-- A confirmed rise of PHASE: a SLAVE in FOLLOWING starts measuring (R116). -/
def phaseLineRise (s : State) : State :=
  let s := s.setRun { s.run with phaseLine := confirmed true }
  if s.straps.role = .slave ∧ s.run.state = .following then enterMeasuring s else s

/-- The end of a SLAVE's point at a fall of PHASE (R118). -/
def slavePointEnd (s : State) : State :=
  let s := cutMeasurement s
  let s := raisePointEnd s.run.index (shortMembers s) s
  if atLastPoint s then completeRun s
  else s.setRun { nextPoint s.run with state := .following }

/-- A confirmed fall of PHASE (R118). -/
def phaseLineFall (s : State) : State :=
  let s := s.setRun { s.run with phaseLine := confirmed false }
  if s.straps.role = .slave ∧ s.run.state = .measuring then slavePointEnd s else s

/-- A confirmed change of a line, if the filter can take it; one that finds the level already confirmed is no change (log 4), and one
before the line's first reading acts (R89, R112, R144; log 30). -/
def lineEvent (f : Filter) (level : Bool) (effect : State → State) (s : State) : State :=
  if canChange f level then effect s else s

/-- The present reading of PHASE. -/
def readPhase (level : Bool) (s : State) : State := s.setRun { s.run with phaseReading := level }

/-- The present reading of DONE. -/
def readDone (level : Bool) (s : State) : State := s.setRun { s.run with doneReading := level }

/-- An event of a cascade line: a SOLO part only reads the level (R111, R112; log 14). -/
def cascadeEvent (f : Filter) (level : Bool) (effect : State → State) (s : State) : State :=
  if s.straps.role = .solo then s else lineEvent f level effect s

/-! ## The rows -/

/-- RUN_START (R91, R115). -/
def execRunStart (how : Addressing) (s : State) : Host.Outcome State Fault Refusal :=
  .next (request how 0x40 reqRunStart s)

/-- RUN_HOLD (R101). -/
def execRunHold (how : Addressing) (s : State) : Host.Outcome State Fault Refusal :=
  .next (request how 0x41 reqRunHold s)

/-- RUN_RESUME (R103). -/
def execRunResume (how : Addressing) (s : State) : Host.Outcome State Fault Refusal :=
  .next (request how 0x42 reqRunResume s)

/-- RUN_ABORT (R104). -/
def execRunAbort (how : Addressing) (s : State) : Host.Outcome State Fault Refusal :=
  .next (request how 0x43 reqRunAbort s)

/-- RUN_STATUS (R109). -/
def execRunStatus (how : Addressing) (s : State) : Host.Outcome State Fault Refusal :=
  .next (request how 0x44 reqRunStatus s)

/-- SRC_READY rises (R94). -/
def execSrcReadyRise (s : State) : Host.Outcome State Fault Refusal :=
  .next (lineEvent s.run.srcReady true srcReadyRise s)

/-- SRC_READY falls (R95, R97). -/
def execSrcReadyFall (s : State) : Host.Outcome State Fault Refusal :=
  .next (lineEvent s.run.srcReady false srcReadyFall s)

/-- The latency is over (R93). -/
def execLatencyTimerExpiry (s : State) : Host.Outcome State Fault Refusal := .next (latencyExpiry s)

/-- The source has not reported ready in time (R94). -/
def execSourceTimerExpiry (s : State) : Host.Outcome State Fault Refusal := .next (sourceExpiry s)

/-- Settling ends (R95). -/
def execSettleTimerExpiry (s : State) : Host.Outcome State Fault Refusal := .next (settleExpiry s)

/-- PHASE has been low for 3 ms (R113). -/
def execPhaseLowIntervalEnd (s : State) : Host.Outcome State Fault Refusal := .next (phaseLowEnd s)

/-- The cascade hold-off ends (R113). -/
def execCascadeHoldOffExpiry (s : State) : Host.Outcome State Fault Refusal := .next (holdOffExpiry s)

/-- The guard expires (R114). -/
def execGuardTimerExpiry (s : State) : Host.Outcome State Fault Refusal := .next (guardExpiry s)

/-- DONE rises (R114). -/
def execDoneRise (s : State) : Host.Outcome State Fault Refusal :=
  .next (cascadeEvent s.run.doneLine true doneLineRise (readDone true s))

/-- DONE falls (R114). -/
def execDoneFall (s : State) : Host.Outcome State Fault Refusal :=
  .next (cascadeEvent s.run.doneLine false doneLineFall (readDone false s))

/-- PHASE rises (R116). -/
def execPhaseRise (s : State) : Host.Outcome State Fault Refusal :=
  .next (cascadeEvent s.run.phaseLine true phaseLineRise (readPhase true s))

/-- PHASE falls (R118). -/
def execPhaseFall (s : State) : Host.Outcome State Fault Refusal :=
  .next (cascadeEvent s.run.phaseLine false phaseLineFall (readPhase false s))

end Sys2Proof.Machine
end

