-- ==== Sys2Proof/Machine/Carriage.lean ====
section
/-! DEFINITION. The closure unit: homing, moves, the press cycle, its faults and its status (R142 to R161). -/

namespace Sys2Proof.Machine

/-- CARRIAGE_HOME (R148). -/
def reqCarriageHome (s : State) : State × Reply :=
  match s.closure.unit with
  | .unhomed => answer .ok (enterHoming s)
  | .idle => answer .ok (enterHoming s)
  | .homing => answer .busy s
  | .moving _ => answer .busy s
  | .pressing _ => answer .busy s
  | .fault => answer .wrongState s

/-- CLOSURE_CLEAR (R157). -/
def reqClosureClear (s : State) : State × Reply :=
  if s.closure.unit = .fault then answer .ok (enterHoming s) else answer .wrongState s

/-- Stage, target, move length and steps taken as CLOSURE_STATUS reports them (R160). -/
def moveReport (unit : UnitState) : Byte × Nat × Nat × Nat :=
  match unit with
  | .moving m => (m.stage.code, m.target, m.length, m.taken)
  | .pressing target => (0, target, 0, 0)
  | _ => (0, 0, 0, 0)

/-- CLOSURE_STATUS (R160, R202). -/
def reqClosureStatus (s : State) : State × Reply :=
  let c := s.closure
  let (stage, target, length, taken) := moveReport c.unit
  answerOk ([c.unit.code, stage] ++ be 2 c.stepCount ++ be 2 target ++ be 2 length ++ be 2 taken ++ be 4 c.tally ++
    [byte s.settings.excitation.code, byte c.exIndex,
      byte (bit c.energised 0 + bit c.press 1 + bit c.home.level 2 + bit c.pressDone.level 3),
      c.lastFault.code, c.lastFault.positionByte, byte c.queue.length]) s

/-- The homing limit (R149). -/
def homingLimit (v : Settings) : Nat := v.travel + 2 * v.pitch

/-- A step period, when it is over, ends (R149, R151). -/
def stepExpiry (s : State) : State :=
  match isDue s.closure.stepTimer, s.closure.unit with
  | true, .homing =>
    if s.closure.tally < homingLimit s.settings then homingStep s
    else raiseFault homeTimeoutKind 0 (s.setClosure (unitFault .homeTimeout s.closure))
  | true, .moving m =>
    match m.stage with
    | .stepping => if m.length ≤ m.taken then arrive m s else takeStep m s
    | .dwell => s
  | _, _ => s

/-- The dwell timer, when it is due, expires (R152). -/
def dwellExpiry (s : State) : State :=
  match isDue s.closure.dwellTimer, s.closure.unit with
  | true, .moving m =>
    match m.stage with
    | .dwell => dwellOver m.target (s.setClosure { s.closure with dwellTimer := none })
    | .stepping => s
  | _, _ => s

/-- A confirmed rise of HOME (R144, R149). -/
def homeRise (s : State) : State :=
  let s := s.setClosure { s.closure with home := confirmed true }
  if s.closure.unit = .homing then reachHome s else s

/-- A confirmed fall of HOME (R144). -/
def homeFall (s : State) : State := s.setClosure { s.closure with home := confirmed false }

/-- The press cycle completed: the head record is CLOSED with the tag, the entry leaves, CLOSED is raised, and the next entry is served
(R150, R154). -/
def completePress (s : State) : State :=
  match s.closure.queue, s.closure.tagInPress with
  | p :: rest, some tag =>
    let s := putRec s p { getRec s p with state := .closed, closure := some ⟨tag, false⟩ }
    let s := s.setClosure { s.closure with
      queue := rest, tagInPress := none, unit := .idle, press := false, pressTimer := none }
    serve (raiseClosed (PosSet.single p) s)
  | _, _ => s

/-- A confirmed rise of PRESS_DONE (R144, R154). -/
def pressDoneRise (s : State) : State :=
  let s := s.setClosure { s.closure with pressDone := confirmed true }
  match s.closure.unit with
  | .pressing _ => completePress s
  | _ => s

/-- A confirmed fall of PRESS_DONE (R144). -/
def pressDoneFall (s : State) : State := s.setClosure { s.closure with pressDone := confirmed false }

/-- The press timer is due and the stroke lost: the tag is spoiled, the head record is PASSED again, the unit is in FAULT (R155). -/
def pressExpiry (s : State) : State :=
  match isDue s.closure.pressTimer, s.closure.unit, s.closure.queue, s.closure.tagInPress with
  | true, .pressing _, p :: rest, some tag =>
    let s := putRec s p { getRec s p with state := .passed, spoiled := some tag }
    let s := s.setClosure { unitFault (.pressTimeout p) s.closure with queue := rest, tagInPress := none }
    raiseFault pressTimeoutKind (PosSet.single p) s
  | _, _, _, _ => s

/-- The pattern on PH0..PH3, PH0 in bit 0 (R143, R145): what the phase lines carry. -/
def phaseLines (s : State) : BitVec 4 :=
  if !s.closure.energised then 0
  else
    match s.settings.excitation, s.closure.exIndex with
    | .full, 0 => 0b0011
    | .full, 1 => 0b0110
    | .full, 2 => 0b1100
    | .full, _ => 0b1001
    | .half, 0 => 0b0001
    | .half, 1 => 0b0011
    | .half, 2 => 0b0010
    | .half, 3 => 0b0110
    | .half, 4 => 0b0100
    | .half, 5 => 0b1100
    | .half, 6 => 0b1000
    | .half, _ => 0b1001

/-! ## The rows -/

/-- CARRIAGE_HOME (R148). -/
def execCarriageHome (how : Addressing) (s : State) : Host.Outcome State Fault Refusal :=
  .next (request how 0x56 reqCarriageHome s)

/-- CLOSURE_CLEAR (R157). -/
def execClosureClear (how : Addressing) (s : State) : Host.Outcome State Fault Refusal :=
  .next (request how 0x57 reqClosureClear s)

/-- CLOSURE_STATUS (R160). -/
def execClosureStatus (how : Addressing) (s : State) : Host.Outcome State Fault Refusal :=
  .next (request how 0x58 reqClosureStatus s)

/-- A step period ends (R149, R151). -/
def execStepTimerExpiry (s : State) : Host.Outcome State Fault Refusal := .next (stepExpiry s)

/-- HOME rises (R149). -/
def execHomeRise (s : State) : Host.Outcome State Fault Refusal := .next (lineEvent s.closure.home true homeRise s)

/-- HOME falls (R144). -/
def execHomeFall (s : State) : Host.Outcome State Fault Refusal := .next (lineEvent s.closure.home false homeFall s)

/-- The dwell ends (R152). -/
def execDwellTimerExpiry (s : State) : Host.Outcome State Fault Refusal := .next (dwellExpiry s)

/-- PRESS_DONE rises (R154). -/
def execPressDoneRise (s : State) : Host.Outcome State Fault Refusal :=
  .next (lineEvent s.closure.pressDone true pressDoneRise s)

/-- PRESS_DONE falls (R144). -/
def execPressDoneFall (s : State) : Host.Outcome State Fault Refusal :=
  .next (lineEvent s.closure.pressDone false pressDoneFall s)

/-- The press timer expires (R155). -/
def execPressTimerExpiry (s : State) : Host.Outcome State Fault Refusal := .next (pressExpiry s)

end Sys2Proof.Machine
end

