-- ==== Sys2Proof/Machine/Plan.lean ====
section
/-! DEFINITION. The requests of the Test Plan Store (R32 to R39). -/

namespace Sys2Proof.Machine

/-- Why the run or the records keep the plan from changing, if they do (R33, steps 2 and 3). -/
def planRefusal (s : State) : Option Status :=
  if s.run.state ≠ .idle then some .busy
  else if anyRec s (fun r => r.state = .passed || r.state = .failed) then some .verdictsHeld
  else none

/-- An accepted edit: the plan takes its new content, and the results lists of MOUNTED and READY records are emptied (R22, R33). -/
def editPlan (plan : List Point) (s : State) : State :=
  mapRecs (fun _ r => if r.state = .mounted ∨ r.state = .ready then { r with results := [] } else r) (s.setPlan plan)

/-- PLAN_CLEAR (R34). -/
def reqPlanClear (s : State) : State × Reply :=
  match planRefusal s with
  | some st => answer st s
  | none => answer .ok (editPlan [] s)

/-- PLAN_APPEND (R35). -/
def reqPlanAppend (form : PointForm) (s : State) : State × Reply :=
  match pointOf form with
  | none => answer .outOfRange s
  | some point =>
    match planRefusal s with
    | some st => answer st s
    | none =>
      if Config.planPlaces ≤ s.plan.length then answer .outOfRange s
      else answer .ok (editPlan (s.plan ++ [point]) s)

/-- PLAN_REPLACE (R36). -/
def reqPlanReplace (place : Byte) (form : PointForm) (s : State) : State × Reply :=
  match pointOf form with
  | none => answer .outOfRange s
  | some point =>
    if Config.planPlaces ≤ place.toNat then answer .outOfRange s
    else
      match planRefusal s with
      | some st => answer st s
      | none =>
        if s.plan.length ≤ place.toNat then answer .outOfRange s
        else answer .ok (editPlan (s.plan.set place.toNat point) s)

/-- PLAN_TRUNCATE (R37). -/
def reqPlanTruncate (length : Byte) (s : State) : State × Reply :=
  match planRefusal s with
  | some st => answer st s
  | none =>
    let plan := s.plan.take length.toNat
    (editPlan plan s, ⟨if s.plan.length < length.toNat then .clamped else .ok, [byte plan.length]⟩)

/-- PLAN_READ (R38). -/
def reqPlanRead (place : Byte) (s : State) : State × Reply :=
  if Config.planPlaces ≤ place.toNat then answer .outOfRange s
  else
    match s.plan[place.toNat]? with
    | some point => answerOk ([byte s.plan.length, 1] ++ pointFormBytes (formOfPoint point)) s
    | none => answerOk ([byte s.plan.length, 0] ++ pointFormBytes zeroForm) s

/-! ## The rows -/

/-- PLAN_CLEAR (R34). -/
def execPlanClear (how : Addressing) (s : State) : Host.Outcome State Fault Refusal :=
  .next (request how 0x30 reqPlanClear s)

/-- PLAN_APPEND (R35). -/
def execPlanAppend (how : Addressing) (point : PointForm) (s : State) : Host.Outcome State Fault Refusal :=
  .next (request how 0x31 (reqPlanAppend point) s)

/-- PLAN_REPLACE (R36). -/
def execPlanReplace (how : Addressing) (place : Byte) (point : PointForm) (s : State) : Host.Outcome State Fault Refusal :=
  .next (request how 0x32 (reqPlanReplace place point) s)

/-- PLAN_READ (R38). -/
def execPlanRead (how : Addressing) (place : Byte) (s : State) : Host.Outcome State Fault Refusal :=
  .next (request how 0x33 (reqPlanRead place) s)

/-- PLAN_TRUNCATE (R37). -/
def execPlanTruncate (how : Addressing) (length : Byte) (s : State) : Host.Outcome State Fault Refusal :=
  .next (request how 0x34 (reqPlanTruncate length) s)

end Sys2Proof.Machine
end

