-- ==== Sys2Proof/Machine/Records.lean ====
section
/-! DEFINITION. The requests of the Position Table, from MOUNT to ACK_SPOILED, with EXCLUDE and the record cursor (R10 to R21, R107,
R108, R190 to R193). -/

namespace Sys2Proof.Machine

/-- The three fields MOUNT and SET_METER check together (R11, R13). -/
def meterFields (mr : BitVec 32) (sense cls : Byte) : Option (Nat × Sense × Fin 4) :=
  if mr.toNat = 0 then none
  else
    match Sense.ofByte sense, classOfByte cls with
    | some se, some c => some (mr.toNat, se, c)
    | _, _ => none

/-- MOUNT at a position (R11). -/
def mountAt (mr : BitVec 32) (sense cls : Byte) (serial : List Byte) (p : Pos) (s : State) : State × Reply :=
  match meterFields mr sense cls with
  | none => answer .outOfRange s
  | some (m, se, c) =>
    if !serialOk serial then answer .outOfRange s
    else if (getRec s p).state ≠ .vacant then answer .wrongState s
    else if (indexFind s.table.index serial).isSome then answer .duplicate s
    else
      let s := putRec s p { Record.vacant with state := .mounted, identity := some ⟨serial, m, se, c⟩ }
      answer .ok (s.setTable { s.table with index := indexInsert p serial s.table.index })

/-- MOUNT (R11). -/
def reqMount (position : Byte) (mr : BitVec 32) (sense cls : Byte) (serial : List Byte) (s : State) : State × Reply :=
  atPosition position (mountAt mr sense cls serial) s

/-- CONFIRM (R12). -/
def reqConfirm (position : Byte) (s : State) : State × Reply :=
  atPosition position (fun p s => let r := confirmPosition p s; answer r.2 r.1) s

/-- SET_METER at a position (R13). -/
def setMeterAt (mr : BitVec 32) (sense cls : Byte) (p : Pos) (s : State) : State × Status :=
  match meterFields mr sense cls with
  | none => (s, .outOfRange)
  | some (m, se, c) =>
    let r := getRec s p
    if r.state = .mounted ∨ r.state = .ready then
      (putRec s p { r with identity := r.identity.map fun i => { i with mr := m, sense := se, cls := c } }, .ok)
    else (s, .wrongState)

/-- SET_METER (R13). -/
def reqSetMeter (position : Byte) (mr : BitVec 32) (sense cls : Byte) (s : State) : State × Reply :=
  atPosition position (fun p s => let r := setMeterAt mr sense cls p s; answer r.2 r.1) s

/-- The flags that section 0 and a summary share (R200). -/
def recordFlags (r : Record) : Nat :=
  bit r.identity.isSome 0 + bit r.closure.isSome 1 + bit (r.closure.any (·.acknowledged)) 2 + bit r.spoiled.isSome 3

/-- Section 0 of a record (R14, R200). -/
def section0 (p : Pos) (r : Record) : List Byte :=
  let serial := (r.identity.map (·.serial)).getD []
  [byte p.val, 0, r.state.code, byte (recordFlags r)] ++ be 4 ((r.identity.map (·.mr)).getD 0) ++
    [(r.identity.map (·.sense.code)).getD 0, byte ((r.identity.map (·.cls.val)).getD 0), byte r.results.length] ++
    be 4 ((r.closure.map (·.number)).getD 0) ++ be 4 (r.spoiled.getD 0) ++
    [byte serial.length] ++ serial ++ List.replicate (16 - serial.length) 0

/-- The ten bytes of a point result (R200). -/
def resultBytes (e : PointResult) : List Byte :=
  [e.outcome.code, e.method.code, byte e.repetitions,
    byte (bit e.value.isSome 0 + bit e.spread.isSome 1 + bit e.saturated 2)] ++
    beInt 3 (e.value.getD 0) ++ be 3 (e.spread.getD 0)

/-- The filler entry of a place beyond the list (R14). -/
def fillerEntry : PointResult := ⟨.notRun, .error, 0, none, none, false⟩

/-- A section of four point results, `k` 1..4 (R14, R200). -/
def sectionResults (p : Pos) (k : Nat) (r : Record) : List Byte :=
  [byte p.val, byte k] ++
    (List.range 4).flatMap fun j => resultBytes ((r.results[4 * (k - 1) + j]?).getD fillerEntry)

/-- Section 5, the live context (R14, R200). -/
def sectionContext (p : Pos) (c : Context) : List Byte :=
  [byte p.val, 5, c.phase.code, byte (bit c.range.isSome 0 + bit c.saturated 1)] ++ be 4 c.c0.toNat ++ be 2 c.edges ++
    beInt 4 c.sum ++ beInt 3 ((c.range.map (·.1)).getD 0) ++ beInt 3 ((c.range.map (·.2)).getD 0) ++
    [byte c.repetitions] ++ be 2 c.pulses

/-- READ_RECORD at a position (R14, R15). -/
def readRecordAt (sec : Byte) (p : Pos) (s : State) : State × Reply :=
  let r := getRec s p
  match sec.toNat with
  | 0 => answerOk (section0 p r) s
  | 1 => answerOk (sectionResults p 1 r) s
  | 2 => answerOk (sectionResults p 2 r) s
  | 3 => answerOk (sectionResults p 3 r) s
  | 4 => answerOk (sectionResults p 4 r) s
  | 5 =>
    match r.state, r.context with
    | .active, some c => answerOk (sectionContext p c) s
    | _, _ => answer .wrongState s
  | _ => answer .outOfRange s

/-- READ_RECORD (R14). -/
def reqReadRecord (position sec : Byte) (s : State) : State × Reply := atPosition position (readRecordAt sec) s

/-- FIND (R16). -/
def reqFind (serial : List Byte) (s : State) : State × Reply :=
  if !serialOk serial then answer .outOfRange s
  else
    match indexFind s.table.index serial with
    | some p => answerOk [byte p.val, (getRec s p).state.code] s
    | none => answer .notFound s

/-- RETIRE (R17). -/
def reqRetire (position : Byte) (s : State) : State × Reply :=
  atPosition position (fun p s => let r := retirePosition p s; answer r.2 r.1) s

/-- RETEST at a position (R19). -/
def retestAt (p : Pos) (s : State) : State × Reply :=
  let r := getRec s p
  match r.state with
  | .failed => answer .ok (putRec s p { r with state := .ready, results := [] })
  | .passed =>
    if r.spoiled.isSome then answer .unreported s else answer .ok (putRec s p { r with state := .ready, results := [] })
  | _ => answer .wrongState s

/-- RETEST (R19). -/
def reqRetest (position : Byte) (s : State) : State × Reply := atPosition position retestAt s

/-- The entries of an excluded member: those from the current point on that read NOT_RUN become EXCLUDED (R107). -/
def excludeEntries (i : Nat) (results : List PointResult) : List PointResult :=
  results.mapIdx fun j e => if i ≤ j ∧ e.outcome = .notRun then excludedEntry e else e

/-- An exclusion's effect on the run (R108, R117, R119). -/
def afterExclusion (s : State) : State :=
  if s.run.members = 0 then breakOff .emptied s else membersChanged s

/-- EXCLUDE at a position (R107, R108). -/
def excludeAt (p : Pos) (s : State) : State × Reply :=
  let r := getRec s p
  if r.state ≠ .active then answer .wrongState s
  else
    let s := putRec s p { r with state := .failed, results := excludeEntries s.run.index r.results, context := none }
    let s := s.setRun { s.run with members := s.run.members.erase p, done := s.run.done.erase p }
    answer .ok (afterExclusion s)

/-- EXCLUDE (R107). -/
def reqExclude (position : Byte) (s : State) : State × Reply := atPosition position excludeAt s

/-- A tag number in 1..999,999,999 (R20, R21). -/
def tagOk (tag : BitVec 32) : Bool := within 1 Config.tagMax tag.toNat

/-- ACK_TAG at a position (R20). -/
def ackTagAt (tag : BitVec 32) (p : Pos) (s : State) : State × Reply :=
  let r := getRec s p
  if !tagOk tag then answer .outOfRange s
  else
    match r.state, r.closure with
    | .closed, some c =>
      if c.number ≠ tag.toNat then answer .mismatch s
      else answer .ok (putRec s p { r with closure := some { c with acknowledged := true } })
    | _, _ => answer .wrongState s

/-- ACK_TAG (R20). -/
def reqAckTag (position : Byte) (tag : BitVec 32) (s : State) : State × Reply := atPosition position (ackTagAt tag) s

/-- ACK_SPOILED at a position (R21). -/
def ackSpoiledAt (tag : BitVec 32) (p : Pos) (s : State) : State × Reply :=
  let r := getRec s p
  if !tagOk tag then answer .outOfRange s
  else
    match r.spoiled with
    | some n => if n ≠ tag.toNat then answer .mismatch s else answer .ok (putRec s p { r with spoiled := none })
    | none => answer .wrongState s

/-- ACK_SPOILED (R21). -/
def reqAckSpoiled (position : Byte) (tag : BitVec 32) (s : State) : State × Reply :=
  atPosition position (ackSpoiledAt tag) s

/-! ## The record cursor (R190 to R193) -/

/-- CURSOR_SET (R190). -/
def reqCursorSet (cursor : Byte) (s : State) : State × Reply :=
  if 48 < cursor.toNat then answer .outOfRange s
  else if s.link.edit then answer .wrongState s
  else answerOk [cursor] (s.setLink { s.link with cursor := cursor.toNat })

/-- An entry that is neither PASS nor NOT_RUN (R191). -/
def isNonPass (e : PointResult) : Bool := e.outcome != .pass && e.outcome != .notRun

/-- The eight bytes of a summary (R191, R200). -/
def summaryBytes (p : Pos) (r : Record) : List Byte :=
  [byte p.val, r.state.code, byte (recordFlags r + bit (r.results.any (·.saturated)) 4),
    byte ((r.identity.map (·.cls.val)).getD 0), byte r.results.length,
    byte (r.results.countP fun e => e.outcome == .pass), byte (r.results.countP isNonPass),
    match r.results.findIdx? isNonPass with
    | some i => byte i
    | none => 0xFF]

/-- The positions from a cursor on, at most `k` of them (R191). -/
def positionsFrom (cursor k : Nat) : List Pos := ((List.finRange 48).drop cursor).take k

/-- READ_NEXT (R191). -/
def reqReadNext (count : Byte) (s : State) : State × Reply :=
  let k := count.toNat
  if k = 0 then answer .outOfRange s
  else
    let ps := positionsFrom s.link.cursor (min k Config.summariesMax)
    let stop := s.link.cursor + ps.length
    let s' := if s.link.edit then s else s.setLink { s.link with cursor := stop }
    (s', ⟨if k ≤ Config.summariesMax then .ok else .clamped,
      [byte ps.length, byte (bit (stop == 48) 0), byte s'.link.cursor] ++ ps.flatMap fun p => summaryBytes p (getRec s p)⟩)

/-- EDIT_BEGIN (R192). -/
def reqEditBegin (s : State) : State × Reply :=
  if s.link.edit then answer .wrongState s
  else answerOk [byte s.link.cursor] (s.setLink { s.link with mark := s.link.cursor, edit := true })

/-- EDIT_END (R192). -/
def reqEditEnd (s : State) : State × Reply :=
  if s.link.edit then answerOk [byte s.link.mark] (s.setLink { s.link with cursor := s.link.mark, edit := false })
  else answer .wrongState s

/-- SET_METER_NEXT: the cursor advances whatever the status, and the payload comes with every status (R193). -/
def reqSetMeterNext (mr : BitVec 32) (sense cls : Byte) (s : State) : State × Reply :=
  let cursor := s.link.cursor
  if h : cursor < 48 then
    let r := setMeterAt mr sense cls ⟨cursor, h⟩ s
    (r.1.setLink { r.1.link with cursor := cursor + 1 }, ⟨r.2, [byte cursor, byte (cursor + 1)]⟩)
  else (s, ⟨.outOfRange, [byte cursor, byte cursor]⟩)

/-! ## The rows -/

/-- MOUNT (R11). -/
def execMount (how : Addressing) (position : Byte) (mr : BitVec 32) (sense cls : Byte) (serial : List Byte) (s : State) :
    Host.Outcome State Fault Refusal :=
  .next (request how 0x20 (reqMount position mr sense cls serial) s)

/-- CONFIRM (R12). -/
def execConfirm (how : Addressing) (position : Byte) (s : State) : Host.Outcome State Fault Refusal :=
  .next (request how 0x21 (reqConfirm position) s)

/-- SET_METER (R13). -/
def execSetMeter (how : Addressing) (position : Byte) (mr : BitVec 32) (sense cls : Byte) (s : State) :
    Host.Outcome State Fault Refusal :=
  .next (request how 0x22 (reqSetMeter position mr sense cls) s)

/-- READ_RECORD (R14). -/
def execReadRecord (how : Addressing) (position sec : Byte) (s : State) : Host.Outcome State Fault Refusal :=
  .next (request how 0x23 (reqReadRecord position sec) s)

/-- FIND (R16). -/
def execFind (how : Addressing) (serial : List Byte) (s : State) : Host.Outcome State Fault Refusal :=
  .next (request how 0x24 (reqFind serial) s)

/-- RETIRE (R17). -/
def execRetire (how : Addressing) (position : Byte) (s : State) : Host.Outcome State Fault Refusal :=
  .next (request how 0x25 (reqRetire position) s)

/-- RETEST (R19). -/
def execRetest (how : Addressing) (position : Byte) (s : State) : Host.Outcome State Fault Refusal :=
  .next (request how 0x26 (reqRetest position) s)

/-- EXCLUDE (R107). -/
def execExclude (how : Addressing) (position : Byte) (s : State) : Host.Outcome State Fault Refusal :=
  .next (request how 0x27 (reqExclude position) s)

/-- ACK_TAG (R20). -/
def execAckTag (how : Addressing) (position : Byte) (tag : BitVec 32) (s : State) : Host.Outcome State Fault Refusal :=
  .next (request how 0x28 (reqAckTag position tag) s)

/-- ACK_SPOILED (R21). -/
def execAckSpoiled (how : Addressing) (position : Byte) (tag : BitVec 32) (s : State) : Host.Outcome State Fault Refusal :=
  .next (request how 0x29 (reqAckSpoiled position tag) s)

/-- CURSOR_SET (R190). -/
def execCursorSet (how : Addressing) (cursor : Byte) (s : State) : Host.Outcome State Fault Refusal :=
  .next (request how 0x2A (reqCursorSet cursor) s)

/-- READ_NEXT (R191). -/
def execReadNext (how : Addressing) (count : Byte) (s : State) : Host.Outcome State Fault Refusal :=
  .next (request how 0x2B (reqReadNext count) s)

/-- EDIT_BEGIN (R192). -/
def execEditBegin (how : Addressing) (s : State) : Host.Outcome State Fault Refusal :=
  .next (request how 0x2C reqEditBegin s)

/-- EDIT_END (R192). -/
def execEditEnd (how : Addressing) (s : State) : Host.Outcome State Fault Refusal :=
  .next (request how 0x2D reqEditEnd s)

/-- SET_METER_NEXT (R193). -/
def execSetMeterNext (how : Addressing) (mr : BitVec 32) (sense cls : Byte) (s : State) : Host.Outcome State Fault Refusal :=
  .next (request how 0x2E (reqSetMeterNext mr sense cls) s)

end Sys2Proof.Machine
end

