-- ==== Sys2Proof/Machine/Settings.lean ====
section
/-! DEFINITION. Settings: SET of every setting under its owner's conditions, and GET (R44, R51, R53, R57, R88, R90, R130, R158, R159,
R167, R173, R185, R186, R195). -/

namespace Sys2Proof.Machine

/-- A value brought to the nearer end of its range (R185). -/
def clampTo (lo hi v : Nat) : Nat := if v < lo then lo else if hi < v then hi else v

/-- OK, or CLAMPED when the value had to be brought into range (R185). -/
def clampStatus (lo hi v : Nat) : Status := if within lo hi v then .ok else .clamped

/-- The value a setting holds, by its id; none for an id not in the table (R186). -/
def settingValue (v : Settings) (id : Nat) : Option Nat :=
  match id with
  | 0x01 => some v.orient.code
  | 0x02 => some v.sampleRate
  | 0x03 => some (refCode v.refSelect)
  | 0x04 => some v.refWindow
  | 0x10 => some v.srcLatency
  | 0x11 => some v.srcTimeout
  | 0x12 => some v.restCode.toNat
  | 0x20 => some v.excitation.code
  | 0x21 => some v.stepStart
  | 0x22 => some v.stepRun
  | 0x23 => some v.rampSteps
  | 0x24 => some v.pitch
  | 0x25 => some v.homeOffset
  | 0x26 => some v.travel
  | 0x27 => some v.pressDwell
  | 0x28 => some v.pressTimeout
  | 0x29 => some v.stockLow
  | 0x30 => some v.panelTimeout
  | 0x31 => some v.brightness
  | 0x40 => some v.attnMask.toNat
  | _ => none

/-- The range of each setting. -/
def settingRange (id : Nat) : Nat × Nat :=
  match id with
  | 0x01 => (0, 1)
  | 0x02 => (0, 3)
  | 0x03 => (0, 1)
  | 0x04 => (10, 1000)
  | 0x10 => (0, 5000)
  | 0x11 => (1, 120)
  | 0x12 => (0, 4095)
  | 0x20 => (0, 1)
  | 0x21 => (1, 50)
  | 0x22 => (1, 50)
  | 0x23 => (0, 64)
  | 0x24 => (1, 4095)
  | 0x25 => (0, 65535)
  | 0x26 => (0, 65535)
  | 0x27 => (0, 500)
  | 0x28 => (100, 10000)
  | 0x29 => (0, 1000)
  | 0x30 => (2, 60)
  | 0x31 => (1, 15)
  | 0x40 => (0, 63)
  | _ => (0, 0)

/-- A value in range written into a setting. -/
def writeSetting (v : Settings) (id n : Nat) : Settings :=
  match id with
  | 0x01 => { v with orient := if n = 0 then .normal else .mirrored }
  | 0x02 => { v with sampleRate := n }
  | 0x03 => { v with refSelect := if n = 0 then .refA else .refB }
  | 0x04 => { v with refWindow := n }
  | 0x10 => { v with srcLatency := n }
  | 0x11 => { v with srcTimeout := n }
  | 0x12 => { v with restCode := BitVec.ofNat 12 n }
  | 0x20 => { v with excitation := if n = 0 then .full else .half }
  | 0x21 => { v with stepStart := n }
  | 0x22 => { v with stepRun := n }
  | 0x23 => { v with rampSteps := n }
  | 0x24 => { v with pitch := n }
  | 0x25 => { v with homeOffset := n }
  | 0x26 => { v with travel := n }
  | 0x27 => { v with pressDwell := n }
  | 0x28 => { v with pressTimeout := n }
  | 0x29 => { v with stockLow := n }
  | 0x30 => { v with panelTimeout := n }
  | 0x31 => { v with brightness := n }
  | 0x40 => { v with attnMask := BitVec.ofNat 6 n }
  | _ => v

/-- The settings of the carriage's geometry (R158). -/
def isGeometry (id : Nat) : Bool := id == 0x20 || id == 0x24 || id == 0x25 || id == 0x26

/-- The bench is quiet (R44). -/
def benchQuiet (s : State) : Bool :=
  !anyRec s (fun r => r.state ≠ .vacant) &&
    match s.closure.unit with
    | .unhomed => true
    | .idle => s.closure.queue.isEmpty
    | _ => false

/-- The unit state lets the geometry change (R158, step 1). -/
def geometryOpen (c : Closure) : Bool :=
  match c.unit with
  | .unhomed => true
  | .fault => true
  | .idle => c.queue.isEmpty
  | _ => false

/-- The owner's state condition of a setting (R185, step 1). -/
def setAllowed (id : Nat) (s : State) : Bool :=
  if id = 0x01 then benchQuiet s
  else if id = 0x03 then s.run.state = .idle
  else if isGeometry id then geometryOpen s.closure
  else true

/-- Every queued position lies within reach under the new settings (R158, step 3). -/
def reachKept (v : Settings) (queue : List Pos) : Bool := queue.all fun p => pressLocation v p ≤ v.travel

/-- The unit made UNHOMED by a change of geometry: the phases go off (R158). -/
def unhome (c : Closure) : Closure := { c with unit := .unhomed, energised := false }

/-- What an accepted SET does beside the new value: REST_CODE reaches the LOAD lines (R88), a real change of EXCITATION, or one of
TRAVEL to below the step count, makes the unit UNHOMED, and a SET of the value already held leaves it as it was (R158); a new mask
sets ATN afresh (R195). -/
def afterSet (id : Nat) (old : Settings) (s : State) : State :=
  if id = 0x12 then
    if s.run.state = .idle ∨ s.straps.role = .slave then s.setRun { s.run with load := s.settings.restCode } else s
  else if id = 0x20 then
    if s.settings.excitation ≠ old.excitation then s.setClosure { unhome s.closure with exIndex := 0 } else s
  else if id = 0x26 then
    if s.settings.travel ≠ old.travel ∧ s.settings.travel < s.closure.stepCount then s.setClosure (unhome s.closure) else s
  else if id = 0x40 then putAttn s s.attn
  else s

/-- The payload of SET and GET: the id and the value held (11, section 11.2). -/
def settingPayload (id : Byte) (s : State) : List Byte := id :: be 4 ((settingValue s.settings id.toNat).getD 0)

/-- SET (R185). -/
def reqSet (id : Byte) (value : BitVec 32) (s : State) : State × Reply :=
  let i := id.toNat
  if (settingValue s.settings i).isNone then answer .outOfRange s
  else if !setAllowed i s then answer .wrongState s
  else
    let (lo, hi) := settingRange i
    let v := writeSetting s.settings i (clampTo lo hi value.toNat)
    if isGeometry i && !reachKept v s.closure.queue then answer .wrongState s
    else
      let t := afterSet i s.settings (s.setSettings v)
      (t, ⟨clampStatus lo hi value.toNat, settingPayload id t⟩)

/-- GET (R186). -/
def reqGet (id : Byte) (s : State) : State × Reply :=
  if (settingValue s.settings id.toNat).isNone then answer .outOfRange s else answerOk (settingPayload id s) s

/-- IDENTIFY (R187). -/
def reqIdentify (s : State) : State × Reply :=
  answerOk ([0x48, 0x44, 0x50] ++ be 2 Config.partNumber ++ [byte Config.revision, s.straps.station.setWidth 8, s.straps.role.code,
    48, byte Config.planPlaces, 4]) s

/-! ## The rows -/

/-- SET of a setting without a row of its own. -/
def execSet (how : Addressing) (id : Byte) (value : BitVec 32) (s : State) : Host.Outcome State Fault Refusal :=
  .next (request how 0x02 (reqSet id value) s)

/-- SET of ORIENT (R44, R45). -/
def execSetOrient (how : Addressing) (value : BitVec 32) (s : State) : Host.Outcome State Fault Refusal :=
  .next (request how 0x02 (reqSet 0x01 value) s)

/-- SET of SAMPLE_RATE (R51). -/
def execSetSampleRate (how : Addressing) (value : BitVec 32) (s : State) : Host.Outcome State Fault Refusal :=
  .next (request how 0x02 (reqSet 0x02 value) s)

/-- SET of REF_SELECT (R53). -/
def execSetRefSelect (how : Addressing) (value : BitVec 32) (s : State) : Host.Outcome State Fault Refusal :=
  .next (request how 0x02 (reqSet 0x03 value) s)

/-- SET of REF_WINDOW (R57). -/
def execSetRefWindow (how : Addressing) (value : BitVec 32) (s : State) : Host.Outcome State Fault Refusal :=
  .next (request how 0x02 (reqSet 0x04 value) s)

/-- SET of REST_CODE (R88). -/
def execSetRestCode (how : Addressing) (value : BitVec 32) (s : State) : Host.Outcome State Fault Refusal :=
  .next (request how 0x02 (reqSet 0x12 value) s)

/-- SET of EXCITATION (R158). -/
def execSetExcitation (how : Addressing) (value : BitVec 32) (s : State) : Host.Outcome State Fault Refusal :=
  .next (request how 0x02 (reqSet 0x20 value) s)

/-- SET of PITCH (R158). -/
def execSetPitch (how : Addressing) (value : BitVec 32) (s : State) : Host.Outcome State Fault Refusal :=
  .next (request how 0x02 (reqSet 0x24 value) s)

/-- SET of HOME_OFFSET (R158). -/
def execSetHomeOffset (how : Addressing) (value : BitVec 32) (s : State) : Host.Outcome State Fault Refusal :=
  .next (request how 0x02 (reqSet 0x25 value) s)

/-- SET of TRAVEL (R158). -/
def execSetTravel (how : Addressing) (value : BitVec 32) (s : State) : Host.Outcome State Fault Refusal :=
  .next (request how 0x02 (reqSet 0x26 value) s)

/-- SET of ATTN_MASK (R195). -/
def execSetAttnMask (how : Addressing) (value : BitVec 32) (s : State) : Host.Outcome State Fault Refusal :=
  .next (request how 0x02 (reqSet 0x40 value) s)

/-- GET (R186). -/
def execGet (how : Addressing) (id : Byte) (s : State) : Host.Outcome State Fault Refusal :=
  .next (request how 0x03 (reqGet id) s)

/-- IDENTIFY (R187). -/
def execIdentify (how : Addressing) (s : State) : Host.Outcome State Fault Refusal :=
  .next (request how 0x01 reqIdentify s)

end Sys2Proof.Machine
end

