-- ==== Sys2Proof/Machine/Stock.lean ====
section
/-! DEFINITION. The requests of the Tag Stock and the Closure Queue (R126, R127, R132, R134, R136, R138). -/

namespace Sys2Proof.Machine

/-- The roll slot record that ROLL_LOAD returns (R202). -/
def slotRecord (slot : RollSlot) : List Byte :=
  slot.code ::
    match slot with
    | .empty => be 4 0 ++ be 4 0 ++ be 4 0
    | .loaded first last next => be 4 first ++ be 4 last ++ be 4 next
    | .exhausted first last => be 4 first ++ be 4 last ++ be 4 (last + 1)

/-- A slot as STOCK_READ reports it: state, next, last (R132, R202). -/
def slotReport (slot : RollSlot) : List Byte :=
  slot.code ::
    match slot with
    | .empty => be 4 0 ++ be 4 0
    | .loaded _ last next => be 4 next ++ be 4 last
    | .exhausted _ last => be 4 (last + 1) ++ be 4 last

/-- A slot byte, 0..3 (R126). -/
def slotOfByte (b : Byte) : Option (Fin 4) := if h : b.toNat < 4 then some ⟨b.toNat, h⟩ else none

/-- Some number from `lo` to `hi` lies in the undrawn range of a LOADED slot (R126). -/
def undrawnMeets (lo hi : Nat) (slot : RollSlot) : Bool :=
  match slot with
  | .loaded _ last next => decide (lo ≤ last) && decide (next ≤ hi)
  | _ => false

/-- ROLL_LOAD (R126). -/
def reqRollLoad (slot : Byte) (first last : BitVec 32) (s : State) : State × Reply :=
  let lo := first.toNat
  let hi := last.toNat
  match slotOfByte slot with
  | none => answer .outOfRange s
  | some i =>
    if lo = 0 ∨ Config.tagMax < hi ∨ hi < lo then answer .outOfRange s
    else if isLoaded (s.stock.get i) then answer .busy s
    else if s.stock.any (undrawnMeets lo hi) then answer .overlap s
    else if someHeld s lo hi then answer .overlap s
    else
      let roll := RollSlot.loaded lo hi lo
      answerOk (slot :: slotRecord roll) (s.setStock (s.stock.set i roll))

/-- ROLL_DROP (R127). -/
def reqRollDrop (slot : Byte) (s : State) : State × Reply :=
  match slotOfByte slot with
  | none => answer .outOfRange s
  | some i =>
    let before := remaining s.stock
    match s.stock.get i with
    | .empty => answer .wrongState s
    | .exhausted .. => answer .ok (s.setStock (s.stock.set i .empty))
    | .loaded first last next =>
      if before - undrawn (.loaded first last next) < reservations s.closure then answer .noStock s
      else answer .ok (noteStockFall before (s.setStock (s.stock.set i .empty)))

/-- STOCK_READ (R132). -/
def reqStockRead (s : State) : State × Reply :=
  answerOk (s.stock.cells.flatMap slotReport ++ be 4 (remaining s.stock) ++ [byte (reservations s.closure)]) s

/-- CLOSE (R134). -/
def reqClose (position : Byte) (s : State) : State × Reply :=
  atPosition position (fun p s => let r := closePosition p s; answer r.2 r.1) s

/-- The unit is serving the head entry (R133). -/
def serving (c : Closure) : Bool :=
  match c.unit with
  | .moving _ => true
  | .pressing _ => true
  | _ => false

/-- CLOSE_CANCEL of a position (R136): BUSY for the entry being served (R150, R151). Taken before the service of an entry it comes together
with, it takes the entry out, and an IDLE unit serves the next one (R139, R150; log 29). -/
def closeCancelAt (p : Pos) (s : State) : State × Reply :=
  if serving s.closure ∧ s.closure.queue.head? = some p then answer .busy s
  else if p ∉ s.closure.queue then answer .wrongState s
  else
    let s := putRec s p { getRec s p with state := .passed }
    answer .ok (serve (s.setClosure { s.closure with queue := s.closure.queue.erase p }))

/-- CLOSE_CANCEL (R136). -/
def reqCloseCancel (position : Byte) (s : State) : State × Reply := atPosition position closeCancelAt s

/-- The head service that QUEUE_READ reports (R138, R202). -/
def headService (c : Closure) : Byte :=
  match c.unit with
  | .moving _ => 1
  | .pressing _ => 2
  | _ => 0

/-- QUEUE_READ (R138). -/
def reqQueueRead (start : Byte) (s : State) : State × Reply :=
  if 47 < start.toNat then answer .outOfRange s
  else
    let entries := (s.closure.queue.drop start.toNat).take Config.entriesMax
    answerOk ([byte s.closure.queue.length, headService s.closure] ++ be 4 (s.closure.tagInPress.getD 0) ++
      [byte entries.length] ++ entries.map fun p => byte p.val) s

/-! ## The rows -/

/-- ROLL_LOAD (R126). -/
def execRollLoad (how : Addressing) (slot : Byte) (first last : BitVec 32) (s : State) : Host.Outcome State Fault Refusal :=
  .next (request how 0x50 (reqRollLoad slot first last) s)

/-- ROLL_DROP (R127). -/
def execRollDrop (how : Addressing) (slot : Byte) (s : State) : Host.Outcome State Fault Refusal :=
  .next (request how 0x51 (reqRollDrop slot) s)

/-- STOCK_READ (R132). -/
def execStockRead (how : Addressing) (s : State) : Host.Outcome State Fault Refusal :=
  .next (request how 0x52 reqStockRead s)

/-- CLOSE (R134). -/
def execClose (how : Addressing) (position : Byte) (s : State) : Host.Outcome State Fault Refusal :=
  .next (request how 0x53 (reqClose position) s)

/-- CLOSE_CANCEL (R136). -/
def execCloseCancel (how : Addressing) (position : Byte) (s : State) : Host.Outcome State Fault Refusal :=
  .next (request how 0x54 (reqCloseCancel position) s)

/-- QUEUE_READ (R138). -/
def execQueueRead (how : Addressing) (start : Byte) (s : State) : Host.Outcome State Fault Refusal :=
  .next (request how 0x55 (reqQueueRead start) s)

end Sys2Proof.Machine
end

