-- ==== Sys2Proof/Machine/Link.lean ====
section
/-! DEFINITION. The bench link by characters: the receiver, the dispatch of a frame, and the response (R178 to R184, R199). -/

namespace Sys2Proof.Machine

/-- A request handed to the block that owns it (R182, step 4). -/
def runRequest (r : Request) (s : State) : State × Reply :=
  match r with
  | .identify => reqIdentify s
  | .set id value => reqSet id value s
  | .get id => reqGet id s
  | .benchClear => reqBenchClear s
  | .attend => reqAttend s
  | .attendDone level => reqAttendDone level s
  | .mount position mr sense cls serial => reqMount position mr sense cls serial s
  | .confirm position => reqConfirm position s
  | .setMeter position mr sense cls => reqSetMeter position mr sense cls s
  | .readRecord position sec => reqReadRecord position sec s
  | .find serial => reqFind serial s
  | .retire position => reqRetire position s
  | .retest position => reqRetest position s
  | .exclude position => reqExclude position s
  | .ackTag position tag => reqAckTag position tag s
  | .ackSpoiled position tag => reqAckSpoiled position tag s
  | .cursorSet cursor => reqCursorSet cursor s
  | .readNext count => reqReadNext count s
  | .editBegin => reqEditBegin s
  | .editEnd => reqEditEnd s
  | .setMeterNext mr sense cls => reqSetMeterNext mr sense cls s
  | .planClear => reqPlanClear s
  | .planAppend point => reqPlanAppend point s
  | .planReplace place point => reqPlanReplace place point s
  | .planRead place => reqPlanRead place s
  | .planTruncate length => reqPlanTruncate length s
  | .runStart => reqRunStart s
  | .runHold => reqRunHold s
  | .runResume => reqRunResume s
  | .runAbort => reqRunAbort s
  | .runStatus => reqRunStatus s
  | .rollLoad slot first last => reqRollLoad slot first last s
  | .rollDrop slot => reqRollDrop slot s
  | .stockRead => reqStockRead s
  | .close position => reqClose position s
  | .closeCancel position => reqCloseCancel position s
  | .queueRead start => reqQueueRead start s
  | .carriageHome => reqCarriageHome s
  | .closureClear => reqClosureClear s
  | .closureStatus => reqClosureStatus s

/-- The answer to a frame of the wrong length: BAD_LENGTH, which SET_METER_NEXT answers with the unmoved cursor (R182, R193). -/
def badLengthReply (cmd : Byte) (s : State) : State × Reply :=
  (s, ⟨.badLength, if cmd = 0x2E then [byte s.link.cursor, byte s.link.cursor] else []⟩)

/-- What a frame with this CMD and these parameters asks of the part (R182, steps 2 to 4). -/
def frameEffect (cmd : Byte) (params : List Byte) (s : State) : State × Reply :=
  match parseRequest cmd params with
  | .unknown => answer .unknown s
  | .badLength => badLengthReply cmd s
  | .request r => runRequest r s

/-- A frame that passed its check is dispatched (R182); an unknown CMD is none that may be broadcast. -/
def dispatchFrame (how : Addressing) (cmd : Byte) (params : List Byte) (s : State) : State :=
  request how cmd.toNat (frameEffect cmd params) s

/-- How a frame with this address value is addressed to this part, if it is (R180). -/
def addressedAs (station : BitVec 4) (value : Byte) : Option Addressing :=
  if value = station.setWidth 8 then some .addressed else if value = 0x7F then some .broadcast else none

/-- The receiver looks for start bits, and takes what arrives (R178 to R180). -/
def receiving (l : Link) : Bool := decide (l.receiver ≠ .responding) && decide (l.rxWait = .none)

/-- An address character arrives: any response still pending is cancelled (R180, R183). -/
def addressCharacter (value : Byte) (s : State) : State :=
  if !receiving s.link then s
  else
    let l := takenLink s.link
    match addressedAs s.straps.station value with
    | some how => s.setLink { l with receiver := .listening how [], gap := true }
    | none => s.setLink { l with receiver := .ignoring }

/-- The frame being assembled is given up (R181). -/
def abandonFrame (l : Link) : Link := { l with receiver := .idle, gap := false }

/-- The bytes from LEN to CHK add up to 255 modulo 256 (R181). -/
def checkOk (frame : List Byte) : Bool := frame.foldl (· + ·) 0 == 255

/-- A frame is complete: dropped or dispatched (R181, R182). -/
def frameComplete (how : Addressing) (frame : List Byte) (s : State) : State :=
  if checkOk frame then
    match frame with
    | _ :: cmd :: rest => dispatchFrame how cmd rest.dropLast s
    | _ => s.setLink (abandonFrame s.link)
  else s.setLink (abandonFrame s.link)

/-- A character is taken into the frame as LEN, CMD, a parameter or CHK (R181). -/
def frameCharacter (how : Addressing) (frame : List Byte) (value : Byte) (s : State) : State :=
  match frame with
  | [] =>
    if value.toNat = 0 ∨ Config.frameMax < value.toNat then s.setLink (abandonFrame s.link)
    else s.setLink { s.link with receiver := .listening how [value], gap := true }
  | len :: _ =>
    let frame := frame ++ [value]
    if len.toNat + 2 ≤ frame.length then frameComplete how frame s
    else s.setLink { s.link with receiver := .listening how frame, gap := true }

/-- A character that is not an address arrives (R180, R181). -/
def dataCharacter (value : Byte) (s : State) : State :=
  if !receiving s.link then s
  else
    match s.link.receiver with
    | .listening how frame => frameCharacter how frame value s
    | _ => s

/-- A character with a framing error: discarded, and a frame being assembled is abandoned (R179). -/
def framingError (s : State) : State :=
  if !receiving s.link then s
  else
    let l := { s.link with rxWait := .afterFramingError }
    match l.receiver with
    | .listening .. => s.setLink (abandonFrame l)
    | _ => s.setLink l

/-- The start bit of the next character is accepted: the gap timer stops (R181). -/
def startBitAccepted (s : State) : State :=
  if receiving s.link then s.setLink { s.link with gap := false } else s

/-- The gap timer expires: the frame is abandoned (R181). -/
def gapExpiry (s : State) : State :=
  match s.link.gap, s.link.receiver with
  | true, .listening .. => s.setLink (abandonFrame s.link)
  | _, _ => s

/-- The quiet timer expires: the response is sent (R183). -/
def quietExpiry (s : State) : State :=
  if s.link.quiet then s.setLink { s.link with receiver := .responding, quiet := false, txen := true } else s

/-- The last stop bit of the response has been sent (R183). -/
def responseSent (s : State) : State :=
  if s.link.receiver = .responding then s.setLink { s.link with receiver := .idle, txen := false, response := none } else s

/-- RXD has been high for long enough: the receiver looks for start bits again (R178). In RESPONDING it does not watch RXD (R179). -/
def rxdHigh (s : State) : State :=
  if s.link.receiver = .responding then s else s.setLink { s.link with rxWait := .none }

/-- The characters of the response to a request, each with its address mark (R183, R199). -/
def responseFrame (station : BitVec 4) (r : Reply) : List (Bool × Byte) :=
  (true, 0x80 + station.setWidth 8) ::
    (withCheck (byte (r.payload.length + 1) :: r.status.code :: r.payload)).map fun b => (false, b)

/-- The characters TXD carries: those of the response while RESPONDING, none otherwise, the line then resting high (R178, R183). -/
def txCharacters (s : State) : List (Bool × Byte) :=
  match s.link.receiver, s.link.response with
  | .responding, some r => responseFrame s.straps.station r
  | _, _ => []

/-! ## The bits of a character (R179) -/

/-- The eleven bits of a character, in the order they are sent: start, data from the least significant bit, address mark, stop. -/
def characterBits (mark : Bool) (value : Byte) : List Bool :=
  false :: (List.finRange 8).map (fun i => value.getLsbD i.val) ++ [mark, true]

/-- What TXD carries bit time by bit time: the characters of the response back to back; with none of them, and TXEN released, the line
rests high. -/
def txBits (s : State) : List Bool := (txCharacters s).flatMap fun c => characterBits c.1 c.2

/-- Three samples of a line near the middle of a bit. -/
structure Samples where
  first : Bool
  second : Bool
  third : Bool
deriving DecidableEq, Repr

/-- The level that at least two of the three samples read. -/
def Samples.majority (x : Samples) : Bool := x.first && x.second || x.first && x.third || x.second && x.third

/-- The data bits of a sampled character. -/
def sampledValue (samples : Tbl 11 Samples) : Byte :=
  BitVec.ofNat 8 ((List.finRange 8).map fun i => bit (samples.get ⟨i.val + 1, by omega⟩).majority i.val).sum

/-- The commands that the samples from a fall of RXD on come to: none when the fall was noise; otherwise the start bit is accepted, and
at the end of the stop bit a character arrives, or one with a framing error (R179). -/
def sampledCommands (samples : Tbl 11 Samples) : List Instr :=
  if (samples.get 0).majority then []
  else
    [.startBitAccepted,
      if !(samples.get 10).majority then .framingError
      else if (samples.get 9).majority then .addressCharacter (sampledValue samples)
      else .dataCharacter (sampledValue samples)]

/-! ## The rows -/

/-- An address character (R180). -/
def execAddressCharacter (value : Byte) (s : State) : Host.Outcome State Fault Refusal := .next (addressCharacter value s)

/-- A data character (R181). -/
def execDataCharacter (value : Byte) (s : State) : Host.Outcome State Fault Refusal := .next (dataCharacter value s)

/-- A framing error (R179). -/
def execFramingError (s : State) : Host.Outcome State Fault Refusal := .next (framingError s)

/-- The gap timer expires (R181). -/
def execGapTimerExpiry (s : State) : Host.Outcome State Fault Refusal := .next (gapExpiry s)

/-- The quiet timer expires (R183). -/
def execQuietTimerExpiry (s : State) : Host.Outcome State Fault Refusal := .next (quietExpiry s)

/-- The response has been sent (R183). -/
def execResponseSent (s : State) : Host.Outcome State Fault Refusal := .next (responseSent s)

/-- A start bit is accepted (R181). -/
def execStartBitAccepted (s : State) : Host.Outcome State Fault Refusal := .next (startBitAccepted s)

/-- RXD has been high long enough (R178, R179). -/
def execRxdHighInterval (s : State) : Host.Outcome State Fault Refusal := .next (rxdHigh s)

end Sys2Proof.Machine
end

