-- ==== Sys2Proof/Machine/Measure.lean ====
section
/-! DEFINITION. The Pulse Front End and the Measurement Engine: meter edges, the reference, presence, and the point timer (R46 to R86).
-/

namespace Sys2Proof.Machine

/-- The limit pair of a class (R74). -/
def limitPair (limits : Tbl 4 (Nat × Nat)) (cls : Fin 4) : Nat × Nat := limits.get cls

/-- The smallest and largest error with `e` taken in (R67). -/
def widen (range : Option (Int × Int)) (e : Int) : Int × Int :=
  match range with
  | some (lo, hi) => (min lo e, max hi e)
  | none => (e, e)

/-- A repetition accumulated into the context (R67). -/
def accumulate (c : Context) (e : Int) (sat : Bool) : Context :=
  { c with
    sum := c.sum + e, range := some (widen c.range e), saturated := c.saturated || sat, repetitions := c.repetitions + 1 }

/-- What an edge makes of a member: its context goes on, or it is done with a result. -/
inductive EdgeEffect
  | going (c : Context)
  | finished (c : Context) (result : PointResult)
deriving DecidableEq, Repr

/-- A gate opened by an edge with its capture (R64). -/
def openGate (capture : BitVec 32) (c : Context) : Context := { c with phase := .gateOpen, c0 := capture, edges := 0 }

/-- The edge that closes a gate (R65 to R67, R74). -/
def closeGate (n repetitions : Nat) (pair : Nat × Nat) (mr : Nat) (capture : BitVec 32) (c : Context) : EdgeEffect :=
  let r := (capture - c.c0).toNat
  if r = 0 then .going (openGate capture c)
  else
    let c := accumulate c (repetitionError n mr r) (saturates n mr r)
    if repetitions ≤ c.repetitions then .finished c (errorResult (judge pair.1 pair.2 c) c)
    else .going (openGate capture c)

/-- An edge of a member not DONE at the point being measured (R64, R65, R80, R81). -/
def edgeEffect (body : PointBody) (identity : Identity) (present : Bool) (capture : BitVec 32) (c : Context) : EdgeEffect :=
  match body with
  | .error n repetitions _ limits =>
    match c.phase with
    | .gateOpen =>
      let c := { c with edges := c.edges + 1 }
      if n ≤ c.edges then closeGate n repetitions (limitPair limits identity.cls) identity.mr capture c else .going c
    | _ => if present then .going (openGate capture c) else .going c
  | .start _ required =>
    let c := { c with pulses := c.pulses + 1 }
    if required ≤ c.pulses then .finished c (countResult .start .pass c) else .going c
  | .creep _ allowed =>
    let c := { c with pulses := c.pulses + 1 }
    if allowed < c.pulses then .finished c (countResult .creep .fail c) else .going c

/-- A member has signalled "member done" (R63, R97, R203). -/
def memberDone (p : Pos) (s : State) : State := membersChanged (s.setRun { s.run with done := s.run.done.insert p })

/-- The effect of an edge put into the member's record (R63). -/
def applyEdge (p : Pos) (i : Nat) (effect : EdgeEffect) (s : State) : State :=
  let r := getRec s p
  match effect with
  | .going c => putRec s p { r with context := some c }
  | .finished c result =>
    memberDone p (putRec s p { r with results := r.results.set i result, context := some { c with phase := .done } })

/-- An edge reaches the Measurement Engine with the reference count as its capture (R49, R50, R62): used only for an ACTIVE member not
DONE while a point is measured. -/
def deliverEdge (p : Pos) (s : State) : State :=
  let r := getRec s p
  match s.engine.point, r.identity, r.context, currentPoint s with
  | some i, some identity, some c, some point =>
    if r.state = .active ∧ c.phase ≠ .done then
      applyEdge p i (edgeEffect point.body identity s.front.present s.front.counter c) s
    else s
  | _, _, _, _ => s

/-- The level a position's input has right after an edge in its sense (R49). -/
def edgeLevel (sense : Sense) : Bool :=
  match sense with
  | .rising => true
  | .falling => false

/-- The filter of a slot replaced. -/
def putFilter (slot : Pos) (f : Filter) (s : State) : State :=
  s.setFront { s.front with filters := s.front.filters.set slot f }

/-- A confirmed change of a slot's input to a level: an edge of the position mapped to the slot when it goes in its sense; a VACANT
position has none (R47, R49). -/
def slotChange (slot : Pos) (level : Bool) (s : State) : State :=
  let s := putFilter slot (confirmed level) s
  let p := slotOf s.settings.orient slot
  match (getRec s p).identity with
  | some identity => if edgeLevel identity.sense = level then deliverEdge p s else s
  | none => s

/-- A confirmed change of a slot's input in its position's sense; a VACANT position has no sense and no edges (R49). It is an edge before
the input's first sample too: the model's choice (R48; log 30). -/
def meterEdge (slot : Pos) (s : State) : State :=
  match (getRec s (slotOf s.settings.orient slot)).identity with
  | some identity => slotChange slot (edgeLevel identity.sense) s
  | none => s

/-- One slot's sample (R47, R48). -/
def sampleSlot (inputs : BitVec 48) (s : State) (slot : Pos) : State :=
  let f := s.front.filters.get slot
  let sample := inputs.getLsbD slot.val
  if confirms f sample then slotChange slot sample s else putFilter slot (sampleFilter f sample) s

/-- A sample instant: every input sampled together, lowest slot first (R46, R47; log 5); a SAMPLE_RATE set since takes over from here
(R51). -/
def sampleAll (inputs : BitVec 48) (s : State) : State :=
  let s := (List.finRange 48).foldl (sampleSlot inputs) s
  s.setFront { s.front with rateNow := s.settings.sampleRate }

/-- A counted reference edge: the counter goes on, modulo 2^32, presence is PRESENT and its window starts anew (R54, R56). -/
def countReference (s : State) : State :=
  s.setFront { s.front with counter := s.front.counter + 1, present := true, window := startTimer s.settings.refWindow }

/-- A rising edge of a reference input: counted when the input is the selected one and the edge is not lost (R53, R54). -/
def referenceEdge (input : RefInput) (spacing : Spacing) (s : State) : State :=
  if input = s.settings.refSelect ∧ spacing = .ample then countReference s else s

/-- A member with its open gate discarded (R75). C0 keeps the capture that opened the gate, for READ_RECORD section 5 to show until
the next gate opens: the model's choice, as R75 names only the phase and the edges (log 24). -/
def loseGate (r : Record) : Record :=
  match r.context with
  | some c =>
    if r.state = .active ∧ c.phase = .gateOpen then { r with context := some { c with phase := .awaitEdge, edges := 0 } } else r
  | none => r

/-- The record is a member with an open gate (R76). -/
def gateIsOpen (r : Record) : Bool := decide (r.state = .active) && r.context.any fun c => c.phase = .gateOpen

/-- The engine takes a loss of the reference at an ERROR point (R75, R76). -/
def referenceLost (s : State) : State :=
  match s.engine.point, currentPoint s with
  | some _, some ⟨_, _, _, .error ..⟩ =>
    let cut := anyRec s gateIsOpen
    let s := mapRecs (fun _ => loseGate) s
    if cut then raiseFault refLostKind 0 s else s
  | _, _ => s

/-- The presence window, when it is due, expires (R56). -/
def presenceExpiry (s : State) : State :=
  if isDue s.front.window then referenceLost (s.setFront { s.front with present := false, window := none }) else s

/-- The point timer, when it is due, expires: every member not DONE gets its outcome and is done (R78, R80, R81). -/
def pointExpiry (s : State) : State :=
  match isDue s.engine.timer, s.engine.point, currentPoint s with
  | true, some i, some point =>
    let s := s.setEngine { s.engine with timer := none }
    let s := mapRecs (fun _ => finishMember i (expiryResult point.body s.front.present)) s
    membersChanged (s.setRun { s.run with done := s.run.members })
  | _, _, _ => s

/-! ## The rows -/

/-- A meter edge (R49). -/
def execMeterEdge (slot : Pos) (s : State) : Host.Outcome State Fault Refusal := .next (meterEdge slot s)

/-- A reference edge (R54). -/
def execReferenceEdge (input : RefInput) (spacing : Spacing) (s : State) : Host.Outcome State Fault Refusal :=
  .next (referenceEdge input spacing s)

/-- The presence window expires (R56). -/
def execPresenceWindowExpiry (s : State) : Host.Outcome State Fault Refusal := .next (presenceExpiry s)

/-- The point timer expires (R78, R80, R81). -/
def execPointTimerExpiry (s : State) : Host.Outcome State Fault Refusal := .next (pointExpiry s)

/-- A sample instant (R47). -/
def execSampleInstant (inputs : BitVec 48) (s : State) : Host.Outcome State Fault Refusal := .next (sampleAll inputs s)

end Sys2Proof.Machine
end

