-- ==== Sys2Proof/Machine/Panel.lean ====
section
/-! DEFINITION. The Operator Panel: key states, panel modes, key actions and lamps (R162 to R176). -/

namespace Sys2Proof.Machine

/-- The panel mode set by a mode key, with the mode timer started (R166, R167). -/
def setMode (mode : PanelMode) (s : State) : State :=
  s.setPanel { s.panel with mode := mode, modeTimer := startTimer (s.settings.panelTimeout * 1000) }

/-- CANCEL: mode NONE, the mode timer stopped (R166). -/
def cancelMode (s : State) : State := s.setPanel { s.panel with mode := .none, modeTimer := none }

/-- The lamp test started or restarted (R174). -/
def startLampTest (s : State) : State := s.setPanel { s.panel with lampTest := startTimer Config.lampTestMs }

/-- A refusal flash started or restarted on a slot's lamp (R169). -/
def startFlash (slot : Pos) (s : State) : State :=
  s.setPanel { s.panel with flashes := s.panel.flashes.set slot (startTimer Config.flashMs) }

/-- A LOAD-mode key's CONFIRM, with what the panel does with the answer (R168, R175). -/
def loadKeyAt (slot p : Pos) (s : State) : State :=
  match confirmPosition p s with
  | (s, .ok) => raiseOperator ⟨PosSet.single p, 0, 0⟩ s
  | (s, _) => startFlash slot s

/-- A CLOSE-mode key's CLOSE (R135, R168). -/
def closeKeyAt (slot p : Pos) (s : State) : State :=
  match closePosition p s with
  | (s, .ok) => s
  | (s, _) => startFlash slot s

/-- A REMOVE-mode key's RETIRE (R168, R175). -/
def removeKeyAt (slot p : Pos) (s : State) : State :=
  match retirePosition p s with
  | (s, .ok) => raiseOperator ⟨0, PosSet.single p, 0⟩ s
  | (s, .unreported) => raiseOperator ⟨0, 0, PosSet.single p⟩ (startFlash slot s)
  | (s, _) => startFlash slot s

/-- A position key's press that acts (R168). -/
def positionKeyActs (slot : Pos) (s : State) : State :=
  let p := slotOf s.settings.orient slot
  match s.panel.mode with
  | .none => s
  | .load => loadKeyAt slot p s
  | .close => closeKeyAt slot p s
  | .remove => removeKeyAt slot p s

/-- A key's confirmed state replaced. -/
def putKey (k : Fin 56) (f : Filter) (s : State) : State := s.setPanel { s.panel with keys := s.panel.keys.set k f }

/-- A running mode timer starts anew at every confirmed press (R167). -/
def restartMode (s : State) : State :=
  if s.panel.mode = .none then s
  else s.setPanel { s.panel with modeTimer := startTimer (s.settings.panelTimeout * 1000) }

/-- A confirmed press of a key (R164, R167). -/
def confirmPress (k : Fin 56) (s : State) : State := restartMode (putKey k (confirmed true) s)

/-- Every key but `k` is UP (R165). -/
def soleKeyDown (k : Fin 56) (s : State) : Bool :=
  (List.finRange 56).all fun j => j == k || !(s.panel.keys.get j).level

/-- A key row: the press is confirmed and, the key being the only one down, acts; a key already DOWN is not pressed again
(R165; log 9). Before its first sample after full reset a key counts as UP, and its row as a press of a key seeded UP: the model's
choice (R164, R176; log 9). -/
def pressKey (k : Fin 56) (act : State → State) (s : State) : State :=
  if (s.panel.keys.get k).level then s
  else
    let s := confirmPress k s
    if soleKeyDown k s then act s else s

/-- What key `k` does when its press acts (R166, R168). -/
def keyActs (k : Fin 56) (s : State) : State :=
  if h : k.val < 48 then positionKeyActs ⟨k.val, h⟩ s
  else
    match k.val with
    | 48 => setMode .load s
    | 49 => setMode .close s
    | 50 => setMode .remove s
    | 51 => (holdRun s).1
    | 52 => (resumeRun s).1
    | 53 => requestAbort s
    | 54 => startLampTest s
    | _ => cancelMode s

/-- A press that does not act (R165, R167); a key not yet sampled counts as UP (log 9). -/
def pressNotActing (k : Fin 56) (s : State) : State := if (s.panel.keys.get k).level then s else confirmPress k s

/-- A confirmed release never acts (R164, R165). A key already UP is not released again: nothing changes (log 4). -/
def releaseKey (k : Fin 56) (s : State) : State :=
  if canChange (s.panel.keys.get k) false then putKey k (confirmed false) s else s

/-- The mode timer, when it is due, expires (R167); one restarted by a press is not due (R170). -/
def modeExpiry (s : State) : State := if isDue s.panel.modeTimer then cancelMode s else s

/-- A refusal flash that is due ends (R169); one restarted by a refusal is not due (R170). -/
def flashExpiry (slot : Pos) (s : State) : State :=
  if isDue (s.panel.flashes.get slot) then s.setPanel { s.panel with flashes := s.panel.flashes.set slot none } else s

/-- The lamp test, when it is due, ends (R174); one started again is not due (R170). -/
def lampTestExpiry (s : State) : State :=
  if isDue s.panel.lampTest then s.setPanel { s.panel with lampTest := none } else s

/-! ## The scan (R163 to R165) -/

/-- The key on a row of a column (R163). -/
def keyOf (column : Fin 8) (row : Fin 7) : Fin 56 := ⟨8 * row.val + column.val, by omega⟩

/-- One key's sample; a confirmed press is noted for the end of the scan (R164, R165). -/
def sampleKey (column : Fin 8) (rows : BitVec 7) (s : State) (row : Fin 7) : State :=
  let k := keyOf column row
  let f := s.panel.keys.get k
  let down := rows.getLsbD row.val
  if confirms f down then
    if down then
      let s := confirmPress k s
      s.setPanel { s.panel with scanPresses := s.panel.scanPresses ||| BitVec.twoPow 56 k.val }
    else releaseKey k s
  else putKey k (sampleFilter f down) s

/-- The press of the scan that acts, if one does: of a key that is the only one down, and the only one pressed (R165), and that was not
held down across a BENCH_CLEAR (R176). -/
def actingKey (s : State) : Option (Fin 56) :=
  if s.panel.scanBarred then none else (List.finRange 56).find? fun k => s.panel.scanPresses == BitVec.twoPow 56 k.val && soleKeyDown k s

/-- The end of a full scan: the press that acts is taken (R165). -/
def endScan (s : State) : State :=
  let t := s.setPanel { s.panel with scanPresses := 0, scanBarred := false }
  match actingKey s with
  | some k => keyActs k t
  | none => t

/-- What the lamp of a slot shows: the test over the flash over the record (R171, R174). -/
def lampAppearance (s : State) (slot : Pos) : Appearance :=
  if s.panel.lampTest.isSome then ⟨true, true, .steady⟩
  else if (s.panel.flashes.get slot).isSome then ⟨true, false, .fast⟩
  else recordAppearance (getRec s (slotOf s.settings.orient slot))

/-- The slot of a lamp row of a column (R163). -/
def lampSlot (column : Fin 8) (row : Fin 6) : Pos := ⟨8 * row.val + column.val, by omega⟩

/-- The lamp rows driven for a column slot from its start (R163, R173; log 19). -/
def driveColumn (s : State) : State :=
  s.setPanel { s.panel with
    drive := Tbl.ofFn fun row =>
      lampOf (lampAppearance s (lampSlot s.panel.column row)) s.settings.brightness s.panel.clock }

/-- A column slot ends with its key samples, a full scan ends with column 7, and the next column slot begins (R163). -/
def endColumn (rows : BitVec 7) (s : State) : State :=
  let s := (List.finRange 7).foldl (sampleKey s.panel.column rows) s
  let s := if s.panel.column = 7 then endScan s else s
  driveColumn (s.setPanel { s.panel with column := s.panel.column + 1 })

/-! ## The rows -/

/-- LOAD (R166). -/
def execLoadKey (s : State) : Host.Outcome State Fault Refusal := .next (pressKey 48 (setMode .load) s)

/-- CLOSE key (R166). -/
def execCloseKey (s : State) : Host.Outcome State Fault Refusal := .next (pressKey 49 (setMode .close) s)

/-- REMOVE (R166). -/
def execRemoveKey (s : State) : Host.Outcome State Fault Refusal := .next (pressKey 50 (setMode .remove) s)

/-- HOLD (R166). -/
def execHoldKey (s : State) : Host.Outcome State Fault Refusal := .next (pressKey 51 (fun s => (holdRun s).1) s)

/-- RESUME (R166). -/
def execResumeKey (s : State) : Host.Outcome State Fault Refusal := .next (pressKey 52 (fun s => (resumeRun s).1) s)

/-- STOP (R166). -/
def execStopKey (s : State) : Host.Outcome State Fault Refusal := .next (pressKey 53 requestAbort s)

/-- LAMP TEST (R166, R174). -/
def execLampTestKey (s : State) : Host.Outcome State Fault Refusal := .next (pressKey 54 startLampTest s)

/-- CANCEL (R166). -/
def execCancelKey (s : State) : Host.Outcome State Fault Refusal := .next (pressKey 55 cancelMode s)

/-- A position key (R168). -/
def execPositionKey (key : Pos) (s : State) : Host.Outcome State Fault Refusal :=
  .next (pressKey (key.castLE (by omega)) (positionKeyActs key) s)

/-- A key is released (R164). -/
def execKeyRelease (key : Fin 56) (s : State) : Host.Outcome State Fault Refusal := .next (releaseKey key s)

/-- A key is pressed and does not act (R165). -/
def execKeyPressNotActing (key : Fin 56) (s : State) : Host.Outcome State Fault Refusal := .next (pressNotActing key s)

/-- The mode lapses (R167). -/
def execModeTimerExpiry (s : State) : Host.Outcome State Fault Refusal := .next (modeExpiry s)

/-- A refusal flash ends (R169). -/
def execRefusalFlashExpiry (slot : Pos) (s : State) : Host.Outcome State Fault Refusal := .next (flashExpiry slot s)

/-- The lamp test ends (R174). -/
def execLampTestExpiry (s : State) : Host.Outcome State Fault Refusal := .next (lampTestExpiry s)

end Sys2Proof.Machine
end

