-- ==== Sys2Proof/Machine/Tick.lean ====
section
/-! DEFINITION. The time base and full reset: MILLISECOND_TICK and FULL_RESET (R1, R26, R89, R112, R122, R144, R163, R172, R177). -/

namespace Sys2Proof.Machine

/-- Every running timer counts one millisecond (R1). -/
def tickTimers (s : State) : State :=
  { s with
    front := { s.front with window := tickTimer s.front.window }
    engine := { s.engine with timer := tickTimer s.engine.timer }
    run := { s.run with
      latency := tickTimer s.run.latency, source := tickTimer s.run.source, settle := tickTimer s.run.settle,
      guard := tickTimer s.run.guard, holdOff := tickTimer s.run.holdOff, phaseLow := tickTimer s.run.phaseLow }
    closure := { s.closure with
      stepTimer := tickTimer s.closure.stepTimer, dwellTimer := tickTimer s.closure.dwellTimer
      pressTimer := tickTimer s.closure.pressTimer }
    panel := { s.panel with
      modeTimer := tickTimer s.panel.modeTimer, flashes := s.panel.flashes.mapIdx fun _ t => tickTimer t,
      lampTest := tickTimer s.panel.lampTest } }

/-- An expiry that the tick takes, of a timer that was due before the tick (R1; log 3). -/
def takeOverdue (before : Option Timer) (expiry : State → State) (s : State) : State := if isDue before then expiry s else s

/-- The tick takes the expiry of every timer that was due before it, in the order of the table's rows; a timer that an earlier expiry
stopped or restarted is due no more (R1; log 3). -/
def takeExpiries (before s : State) : State :=
  let s := takeOverdue before.front.window presenceExpiry s
  let s := takeOverdue before.engine.timer pointExpiry s
  let s := takeOverdue before.run.latency latencyExpiry s
  let s := takeOverdue before.run.source sourceExpiry s
  let s := takeOverdue before.run.settle settleExpiry s
  let s := takeOverdue before.run.phaseLow phaseLowEnd s
  let s := takeOverdue before.run.holdOff holdOffExpiry s
  let s := takeOverdue before.run.guard guardExpiry s
  let s := takeOverdue before.closure.stepTimer stepExpiry s
  let s := takeOverdue before.closure.dwellTimer dwellExpiry s
  let s := takeOverdue before.closure.pressTimer pressExpiry s
  let s := takeOverdue before.panel.modeTimer modeExpiry s
  let s := (List.finRange 48).foldl (fun s slot => takeOverdue (before.panel.flashes.get slot) (flashExpiry slot) s) s
  takeOverdue before.panel.lampTest lampTestExpiry s

/-- The pattern clock goes on, from 1,999 to 0 (R172). -/
def tickClock (s : State) : State := s.setPanel { s.panel with clock := (s.panel.clock + 1) % Config.patternMs }

/-- SRC_READY is read (R89). -/
def sampleSrcReady (level : Bool) (s : State) : State :=
  if confirms s.run.srcReady level then (if level then srcReadyRise s else srcReadyFall s)
  else s.setRun { s.run with srcReady := sampleFilter s.run.srcReady level }

/-- HOME is read (R144). -/
def sampleHome (level : Bool) (s : State) : State :=
  if confirms s.closure.home level then (if level then homeRise s else homeFall s)
  else s.setClosure { s.closure with home := sampleFilter s.closure.home level }

/-- PRESS_DONE is read (R144). -/
def samplePressDone (level : Bool) (s : State) : State :=
  if confirms s.closure.pressDone level then (if level then pressDoneRise s else pressDoneFall s)
  else s.setClosure { s.closure with pressDone := sampleFilter s.closure.pressDone level }

/-- PHASE is read (R112); a SOLO part holds only the reading. -/
def samplePhase (level : Bool) (s : State) : State :=
  let s := readPhase level s
  if s.straps.role = .solo then s
  else if confirms s.run.phaseLine level then (if level then phaseLineRise s else phaseLineFall s)
  else s.setRun { s.run with phaseLine := sampleFilter s.run.phaseLine level }

/-- DONE is read (R112); a SOLO part holds only the reading. -/
def sampleDone (level : Bool) (s : State) : State :=
  let s := readDone level s
  if s.straps.role = .solo then s
  else if confirms s.run.doneLine level then (if level then doneLineRise s else doneLineFall s)
  else s.setRun { s.run with doneLine := sampleFilter s.run.doneLine level }

/-- A tick of the time base: the clock and the timers, the expiries one tick overdue (log 3), then the lines in a fixed order (log 5),
then the end of a column slot. -/
def tick (srcReady home pressDone phase done : Bool) (rows : BitVec 7) (s : State) : State :=
  let s := takeExpiries s (tickClock (tickTimers s))
  let s := sampleSrcReady srcReady s
  let s := sampleHome home s
  let s := samplePressDone pressDone s
  let s := samplePhase phase s
  let s := sampleDone done s
  endColumn rows s

/-- Full reset with these straps: every block at its reset value, nothing raised (R26, R42, R59, R86, R110, R122, R141, R161, R176,
R177, R178, R198). A MASTER's PHASE that the reset makes fall stays low for its 3 ms, and an interval of a fall before the reset is
dropped (R113): both are the model's (log 13). -/
def fullReset (straps : Straps) (s : State) : State :=
  let t := State.initial straps s.pending
  if s.run.phaseHigh ∧ straps.role = .master then t.setRun { t.run with phaseLow := startTimer Config.phaseLowMs } else t

/-! ## The rows -/

/-- A tick of the time base (R172). -/
def execMillisecondTick (srcReady home pressDone phase done : Bool) (rows : BitVec 7) (s : State) :
    Host.Outcome State Fault Refusal :=
  .next (tick srcReady home pressDone phase done rows s)

/-- Full reset (R26, R177). -/
def execFullReset (station : BitVec 4) (role rate : BitVec 2) (s : State) : Host.Outcome State Fault Refusal :=
  .next (fullReset ⟨station, Role.ofStraps role, rate⟩ s)

end Sys2Proof.Machine
end

