-- ==== Sys2Proof/Machine/Dispatch.lean ====
section
/-! DEFINITION. One arm per command, each one direct call of its meaning. -/

namespace Sys2Proof.Machine

/-- The effect of a command on everything but the queue. -/
def exec (i : Instr) (s : State) : Host.Outcome State Fault Refusal :=
  match i with
  | .fullReset station role rate => Sys2Proof.Machine.execFullReset station role rate s
  | .addressCharacter value => Sys2Proof.Machine.execAddressCharacter value s
  | .dataCharacter value => Sys2Proof.Machine.execDataCharacter value s
  | .framingError => Sys2Proof.Machine.execFramingError s
  | .gapTimerExpiry => Sys2Proof.Machine.execGapTimerExpiry s
  | .quietTimerExpiry => Sys2Proof.Machine.execQuietTimerExpiry s
  | .responseSent => Sys2Proof.Machine.execResponseSent s
  | .identify how => Sys2Proof.Machine.execIdentify how s
  | .set how id value => Sys2Proof.Machine.execSet how id value s
  | .setOrient how value => Sys2Proof.Machine.execSetOrient how value s
  | .setSampleRate how value => Sys2Proof.Machine.execSetSampleRate how value s
  | .setRefSelect how value => Sys2Proof.Machine.execSetRefSelect how value s
  | .setRefWindow how value => Sys2Proof.Machine.execSetRefWindow how value s
  | .setRestCode how value => Sys2Proof.Machine.execSetRestCode how value s
  | .setExcitation how value => Sys2Proof.Machine.execSetExcitation how value s
  | .setPitch how value => Sys2Proof.Machine.execSetPitch how value s
  | .setHomeOffset how value => Sys2Proof.Machine.execSetHomeOffset how value s
  | .setTravel how value => Sys2Proof.Machine.execSetTravel how value s
  | .setAttnMask how value => Sys2Proof.Machine.execSetAttnMask how value s
  | .get how id => Sys2Proof.Machine.execGet how id s
  | .benchClear how => Sys2Proof.Machine.execBenchClear how s
  | .attend how => Sys2Proof.Machine.execAttend how s
  | .attendDone how level => Sys2Proof.Machine.execAttendDone how level s
  | .mount how position mr sense cls serial => Sys2Proof.Machine.execMount how position mr sense cls serial s
  | .confirm how position => Sys2Proof.Machine.execConfirm how position s
  | .setMeter how position mr sense cls => Sys2Proof.Machine.execSetMeter how position mr sense cls s
  | .readRecord how position sec => Sys2Proof.Machine.execReadRecord how position sec s
  | .find how serial => Sys2Proof.Machine.execFind how serial s
  | .retire how position => Sys2Proof.Machine.execRetire how position s
  | .retest how position => Sys2Proof.Machine.execRetest how position s
  | .exclude how position => Sys2Proof.Machine.execExclude how position s
  | .ackTag how position tag => Sys2Proof.Machine.execAckTag how position tag s
  | .ackSpoiled how position tag => Sys2Proof.Machine.execAckSpoiled how position tag s
  | .cursorSet how cursor => Sys2Proof.Machine.execCursorSet how cursor s
  | .readNext how count => Sys2Proof.Machine.execReadNext how count s
  | .editBegin how => Sys2Proof.Machine.execEditBegin how s
  | .editEnd how => Sys2Proof.Machine.execEditEnd how s
  | .setMeterNext how mr sense cls => Sys2Proof.Machine.execSetMeterNext how mr sense cls s
  | .planClear how => Sys2Proof.Machine.execPlanClear how s
  | .planAppend how point => Sys2Proof.Machine.execPlanAppend how point s
  | .planReplace how place point => Sys2Proof.Machine.execPlanReplace how place point s
  | .planRead how place => Sys2Proof.Machine.execPlanRead how place s
  | .planTruncate how length => Sys2Proof.Machine.execPlanTruncate how length s
  | .runStart how => Sys2Proof.Machine.execRunStart how s
  | .runHold how => Sys2Proof.Machine.execRunHold how s
  | .runResume how => Sys2Proof.Machine.execRunResume how s
  | .runAbort how => Sys2Proof.Machine.execRunAbort how s
  | .runStatus how => Sys2Proof.Machine.execRunStatus how s
  | .rollLoad how slot first last => Sys2Proof.Machine.execRollLoad how slot first last s
  | .rollDrop how slot => Sys2Proof.Machine.execRollDrop how slot s
  | .stockRead how => Sys2Proof.Machine.execStockRead how s
  | .close how position => Sys2Proof.Machine.execClose how position s
  | .closeCancel how position => Sys2Proof.Machine.execCloseCancel how position s
  | .queueRead how start => Sys2Proof.Machine.execQueueRead how start s
  | .carriageHome how => Sys2Proof.Machine.execCarriageHome how s
  | .closureClear how => Sys2Proof.Machine.execClosureClear how s
  | .closureStatus how => Sys2Proof.Machine.execClosureStatus how s
  | .meterEdge slot => Sys2Proof.Machine.execMeterEdge slot s
  | .referenceEdge input spacing => Sys2Proof.Machine.execReferenceEdge input spacing s
  | .presenceWindowExpiry => Sys2Proof.Machine.execPresenceWindowExpiry s
  | .pointTimerExpiry => Sys2Proof.Machine.execPointTimerExpiry s
  | .srcReadyRise => Sys2Proof.Machine.execSrcReadyRise s
  | .srcReadyFall => Sys2Proof.Machine.execSrcReadyFall s
  | .latencyTimerExpiry => Sys2Proof.Machine.execLatencyTimerExpiry s
  | .sourceTimerExpiry => Sys2Proof.Machine.execSourceTimerExpiry s
  | .settleTimerExpiry => Sys2Proof.Machine.execSettleTimerExpiry s
  | .phaseLowIntervalEnd => Sys2Proof.Machine.execPhaseLowIntervalEnd s
  | .cascadeHoldOffExpiry => Sys2Proof.Machine.execCascadeHoldOffExpiry s
  | .guardTimerExpiry => Sys2Proof.Machine.execGuardTimerExpiry s
  | .doneRise => Sys2Proof.Machine.execDoneRise s
  | .doneFall => Sys2Proof.Machine.execDoneFall s
  | .phaseRise => Sys2Proof.Machine.execPhaseRise s
  | .phaseFall => Sys2Proof.Machine.execPhaseFall s
  | .stepTimerExpiry => Sys2Proof.Machine.execStepTimerExpiry s
  | .homeRise => Sys2Proof.Machine.execHomeRise s
  | .homeFall => Sys2Proof.Machine.execHomeFall s
  | .dwellTimerExpiry => Sys2Proof.Machine.execDwellTimerExpiry s
  | .pressDoneRise => Sys2Proof.Machine.execPressDoneRise s
  | .pressDoneFall => Sys2Proof.Machine.execPressDoneFall s
  | .pressTimerExpiry => Sys2Proof.Machine.execPressTimerExpiry s
  | .loadKey => Sys2Proof.Machine.execLoadKey s
  | .closeKey => Sys2Proof.Machine.execCloseKey s
  | .removeKey => Sys2Proof.Machine.execRemoveKey s
  | .holdKey => Sys2Proof.Machine.execHoldKey s
  | .resumeKey => Sys2Proof.Machine.execResumeKey s
  | .stopKey => Sys2Proof.Machine.execStopKey s
  | .lampTestKey => Sys2Proof.Machine.execLampTestKey s
  | .cancelKey => Sys2Proof.Machine.execCancelKey s
  | .positionKey key => Sys2Proof.Machine.execPositionKey key s
  | .keyRelease key => Sys2Proof.Machine.execKeyRelease key s
  | .modeTimerExpiry => Sys2Proof.Machine.execModeTimerExpiry s
  | .refusalFlashExpiry slot => Sys2Proof.Machine.execRefusalFlashExpiry slot s
  | .lampTestExpiry => Sys2Proof.Machine.execLampTestExpiry s
  | .startBitAccepted => Sys2Proof.Machine.execStartBitAccepted s
  | .rxdHighInterval => Sys2Proof.Machine.execRxdHighInterval s
  | .sampleInstant inputs => Sys2Proof.Machine.execSampleInstant inputs s
  | .millisecondTick srcReady home pressDone phase done rows => Sys2Proof.Machine.execMillisecondTick srcReady home pressDone phase done rows s
  | .keyPressNotActing key => Sys2Proof.Machine.execKeyPressNotActing key s

end Sys2Proof.Machine
end

