-- ==== Sys2Proof/Safety.lean ====
section
/-! DEFINITION. What statements about the part are written in: which blocks a command changes, the link after a request, the rows that
requests are, and the laws that every step keeps. -/

namespace Sys2Proof.Machine

/-! ## Frames -/

/-- The blocks of a state, by its fields. -/
inductive Block
  | straps | settings | link | attn | table | plan | front | engine | run | stock | closure | panel
deriving DecidableEq, Repr

/-- A block is the same in both states. -/
def Block.same (s t : State) : Block → Prop
  | .straps => t.straps = s.straps
  | .settings => t.settings = s.settings
  | .link => t.link = s.link
  | .attn => t.attn = s.attn
  | .table => t.table = s.table
  | .plan => t.plan = s.plan
  | .front => t.front = s.front
  | .engine => t.engine = s.engine
  | .run => t.run = s.run
  | .stock => t.stock = s.stock
  | .closure => t.closure = s.closure
  | .panel => t.panel = s.panel

/-- Every block but those listed is as it was, and so are the waiting commands. -/
def OnlyChanges (blocks : List Block) (s t : State) : Prop :=
  t.pending = s.pending ∧ ∀ b, b ∉ blocks → b.same s t

/-- Every record but that of `p` is as it was. -/
def OtherRecordsKept (p : Pos) (s t : State) : Prop := ∀ q, q ≠ p → getRec t q = getRec s q

/-- The timer runs and its length has passed, so that its expiry may be taken (R1; log 3). -/
abbrev Due (t : Option Timer) : Prop := t.map (·.left) = some 0

/-! ## Requests as rows -/

/-- The receiver can take a request: it is not sending a response (R180). -/
abbrev CanTake (s : State) : Prop := s.link.receiver ≠ .responding

/-- The link once a request has been taken and, when it was addressed, answered (R182 to R184). -/
def afterRequest (how : Addressing) (l : Link) (st : Status) (payload : List Byte) : Link :=
  { l with
    receiver := .idle, gap := false, rxWait := .none
    quiet := decide (how = .addressed)
    response := if how = .addressed then some ⟨st, payload⟩ else none }

/-- The outcome of a request that left the part as `t` and was answered with a status and a payload; a broadcast one leaves no
response (R183, R184). -/
def answered (how : Addressing) (st : Status) (payload : List Byte) (t : State) : Host.Outcome State Fault Refusal :=
  .next { t with link := afterRequest how t.link st payload }

/-- The part once key `k` is confirmed DOWN: a mode in force has its timer restarted (R164, R167). -/
def pressed (k : Fin 56) (s : State) : State :=
  { s with panel := { s.panel with
      keys := s.panel.keys.set k ⟨true, false, true⟩
      modeTimer := if s.panel.mode = .none then s.panel.modeTimer
        else some ⟨s.settings.panelTimeout * 1000, s.settings.panelTimeout * 1000⟩ } }

/-- Key `k` is UP and so is every other: a press of it acts (R165). -/
def AllKeysUp (s : State) : Prop := ∀ k, (s.panel.keys.get k).level = false

/-- A filter after a sample: the first one seeds it, a level is confirmed by the second sample in a row that differs (R47, R48,
R164). -/
def filterAfter (f : Filter) (sample : Bool) : Filter :=
  if f.seeded = false then ⟨sample, false, true⟩
  else if sample = f.level then ⟨f.level, false, true⟩
  else if f.pending then ⟨sample, false, true⟩
  else ⟨f.level, true, true⟩

/-- The sample is the confirming sample of a change (R47). -/
def Confirming (f : Filter) (sample : Bool) : Prop := f.seeded = true ∧ f.pending = true ∧ sample ≠ f.level

/-- The row of key `k` (R163, R166). -/
def keyRow (k : Fin 56) : Instr :=
  if h : k.val < 48 then .positionKey ⟨k.val, h⟩
  else
    match k.val with
    | 48 => .loadKey
    | 49 => .closeKey
    | 50 => .removeKey
    | 51 => .holdKey
    | 52 => .resumeKey
    | 53 => .stopKey
    | 54 => .lampTestKey
    | _ => .cancelKey

/-- The settings: id, lowest value, highest value and default (10, section 10.5, and the owners' rules). -/
def settingTable : List (Nat × Nat × Nat × Nat) :=
  [(0x01, 0, 1, 0), (0x02, 0, 3, 1), (0x03, 0, 1, 0), (0x04, 10, 1000, 100), (0x10, 0, 5000, 100), (0x11, 1, 120, 30),
    (0x12, 0, 4095, 0), (0x20, 0, 1, 1), (0x21, 1, 50, 8), (0x22, 1, 50, 2)] ++
  [(0x23, 0, 64, 16), (0x24, 1, 4095, 400), (0x25, 0, 65535, 200), (0x26, 0, 65535, 19500), (0x27, 0, 500, 50),
    (0x28, 100, 10000, 2000), (0x29, 0, 1000, 20), (0x30, 2, 60, 10), (0x31, 1, 15, 12), (0x40, 0, 63, 63)]

/-- The settings of the bench's geometry (R158). -/
def GeometryId (id : Nat) : Prop := id = 0x20 ∨ id = 0x24 ∨ id = 0x25 ∨ id = 0x26

/-- The part's state allows SET of a setting (R44, R53, R158; the other settings are open in every state). -/
def SetOpen (id : Nat) (s : State) : Prop :=
  (id = 0x01 → (∀ p, (getRec s p).state = .vacant) ∧
    (s.closure.unit = .unhomed ∨ s.closure.unit = .idle ∧ s.closure.queue = [])) ∧
  (id = 0x03 → s.run.state = .idle) ∧
  (GeometryId id → s.closure.unit = .unhomed ∨ s.closure.unit = .fault ∨ s.closure.unit = .idle ∧ s.closure.queue = [])

/-- With settings `v` every queued closure is within reach (R158). -/
def ReachKept (v : Settings) (s : State) : Prop := ∀ p ∈ s.closure.queue, pressLocation v p ≤ v.travel

/-- The unit is moving, homing or pressing (R188). -/
def UnitBusy (u : UnitState) : Prop := u = .homing ∨ (∃ m, u = .moving m) ∨ ∃ target, u = .pressing target

/-- The row that SET of a setting is. -/
def setRow (how : Addressing) (id : Byte) (value : BitVec 32) : Instr :=
  match id.toNat with
  | 0x01 => .setOrient how value
  | 0x02 => .setSampleRate how value
  | 0x03 => .setRefSelect how value
  | 0x04 => .setRefWindow how value
  | 0x12 => .setRestCode how value
  | 0x20 => .setExcitation how value
  | 0x24 => .setPitch how value
  | 0x25 => .setHomeOffset how value
  | 0x26 => .setTravel how value
  | 0x40 => .setAttnMask how value
  | _ => .set how id value

/-- The row of the opcode table that a request is. -/
def Request.row (how : Addressing) : Request → Instr
  | .identify => .identify how
  | .set id value => setRow how id value
  | .get id => .get how id
  | .benchClear => .benchClear how
  | .attend => .attend how
  | .attendDone level => .attendDone how level
  | .mount position mr sense cls serial => .mount how position mr sense cls serial
  | .confirm position => .confirm how position
  | .setMeter position mr sense cls => .setMeter how position mr sense cls
  | .readRecord position sec => .readRecord how position sec
  | .find serial => .find how serial
  | .retire position => .retire how position
  | .retest position => .retest how position
  | .exclude position => .exclude how position
  | .ackTag position tag => .ackTag how position tag
  | .ackSpoiled position tag => .ackSpoiled how position tag
  | .cursorSet cursor => .cursorSet how cursor
  | .readNext count => .readNext how count
  | .editBegin => .editBegin how
  | .editEnd => .editEnd how
  | .setMeterNext mr sense cls => .setMeterNext how mr sense cls
  | .planClear => .planClear how
  | .planAppend point => .planAppend how point
  | .planReplace place point => .planReplace how place point
  | .planRead place => .planRead how place
  | .planTruncate length => .planTruncate how length
  | .runStart => .runStart how
  | .runHold => .runHold how
  | .runResume => .runResume how
  | .runAbort => .runAbort how
  | .runStatus => .runStatus how
  | .rollLoad slot first last => .rollLoad how slot first last
  | .rollDrop slot => .rollDrop how slot
  | .stockRead => .stockRead how
  | .close position => .close how position
  | .closeCancel position => .closeCancel how position
  | .queueRead start => .queueRead how start
  | .carriageHome => .carriageHome how
  | .closureClear => .closureClear how
  | .closureStatus => .closureStatus how

/-- Commands carried out one after another, up to the first that does not answer a next state. -/
def execAll : List Instr → State → Host.Outcome State Fault Refusal
  | [], s => .next s
  | c :: rest, s =>
    match exec c s with
    | .next t => execAll rest t
    | stop => stop

/-! ## The laws of the table, the run and the queue -/

/-- What a record holds follows from its state (R3, R6, R7, and the state table of 01, section 1.2). -/
def RecordLaw (r : Record) : Prop :=
  (r.identity = none ↔ r.state = .vacant) ∧ (r.context.isSome = true ↔ r.state = .active) ∧
    (r.closure.isSome = true ↔ r.state = .closed) ∧ (r.spoiled.isSome = true → r.state = .passed) ∧
    (r.state = .vacant ∨ r.state = .mounted → r.results = [])

/-- The member set holds exactly the ACTIVE positions, it is empty exactly in IDLE, and the done set is part of it
(R87, R92, R203). -/
def RunLaw (s : State) : Prop :=
  (∀ p, s.run.members.has p = true ↔ (getRec s p).state = .active) ∧ (s.run.state = .idle ↔ s.run.members = 0) ∧
    ∀ p, s.run.done.has p = true → s.run.members.has p = true

/-- The unit is PRESSING. -/
def UnitState.isPressing : UnitState → Bool
  | .pressing _ => true
  | _ => false

/-- A CLOSE_CANCEL of the head entry comes together with the beginning of its service: it waits next, and can be taken (R139; log 29). -/
def CancelTogether (s : State) : Prop :=
  ∃ p rest b more, s.closure.queue = p :: rest ∧ s.pending = .closeCancel .addressed b :: more ∧ b.toNat = p.val ∧ CanTake s

/-- The queue holds each CLOSING position once and no other; a tag is in the press exactly in PRESSING; an entry is served in MOVING
and PRESSING, and none waits in IDLE but one whose CLOSE_CANCEL is the very next command (R133, R139, R148; log 29). -/
def QueueLaw (s : State) : Prop :=
  s.closure.queue.Nodup ∧ (∀ p, p ∈ s.closure.queue ↔ (getRec s p).state = .closing) ∧
    (s.closure.tagInPress.isSome = s.closure.unit.isPressing) ∧ (serving s.closure = true → s.closure.queue ≠ []) ∧
    (s.closure.unit = .idle → s.closure.queue = [] ∨ CancelTogether s)

/-- The records, the run and the queue agree with each other. -/
def BenchLaw (s : State) : Prop := (∀ p, RecordLaw (getRec s p)) ∧ RunLaw s ∧ QueueLaw s

/-- The index holds the serial of every non-VACANT record by rising position, and no serial twice (R9). -/
def IndexLaw (s : State) : Prop :=
  s.table.index = (List.finRange 48).filterMap (fun p => (getRec s p).identity.map fun i => (p, i.serial)) ∧
    (s.table.index.map (·.2)).Nodup

/-! ## The laws of the stock -/

/-- 1 ≤ first ≤ next ≤ last ≤ 999,999,999 while LOADED; an EXHAUSTED slot's next is last + 1 (R123). -/
def slotOk : RollSlot → Prop
  | .empty => True
  | .loaded first last next => 1 ≤ first ∧ first ≤ next ∧ next ≤ last ∧ last ≤ Config.tagMax
  | .exhausted first last => 1 ≤ first ∧ first ≤ last ∧ last ≤ Config.tagMax

/-- Every slot is in order, and the unserved reservations never exceed the remaining count (R123, R129). -/
def StockLaw (s : State) : Prop := (∀ i, slotOk (s.stock.get i)) ∧ reservations s.closure ≤ remaining s.stock

/-- The record holds the tag number, as a closure tag or as a spoiled tag (R125). -/
def holdsTag (r : Record) (n : Nat) : Prop := (∃ t, r.closure = some t ∧ t.number = n) ∨ r.spoiled = some n

/-- The number lies between next and last of a LOADED slot. -/
def undrawnIn (n : Nat) : RollSlot → Prop
  | .loaded _ last next => next ≤ n ∧ n ≤ last
  | _ => False

/-- The number is held on a record or in the press (R125). -/
def isHeld (s : State) (n : Nat) : Prop := (∃ p, holdsTag (getRec s p) n) ∨ s.closure.tagInPress = some n

/-- No number is held twice, no held number is undrawn, and no number is undrawn in two slots (R125). -/
def TagLaw (s : State) : Prop :=
  (∀ p q n, holdsTag (getRec s p) n → holdsTag (getRec s q) n → p = q) ∧
    (∀ p n, holdsTag (getRec s p) n → s.closure.tagInPress ≠ some n) ∧
    (∀ n i, isHeld s n → ¬undrawnIn n (s.stock.get i)) ∧
    ∀ n i j, undrawnIn n (s.stock.get i) → undrawnIn n (s.stock.get j) → i = j

/-! ## The laws of the run's lines, timers and measurement -/

/-- The run states of the role, PHASE and DONE as the run state drives them, and each run timer only in the state it belongs to
(R88, R102, R111, R113, R117). -/
def CascadeLaw (s : State) : Prop :=
  (s.straps.role = .slave → s.run.state = .idle ∨ s.run.state = .following ∨ s.run.state = .measuring) ∧
    (s.straps.role ≠ .slave → s.run.state ≠ .following) ∧
    (s.run.phaseHigh = decide (s.straps.role = .master ∧ s.run.state = .measuring)) ∧
    (s.run.doneLow = decide (s.straps.role = .slave ∧ s.run.state = .measuring ∧ s.run.done ≠ s.run.members)) ∧
    (s.run.guard.isSome = true ∨ s.run.holdOff.isSome = true → s.straps.role = .master ∧ s.run.state = .measuring) ∧
    (s.run.latency.isSome = true → s.run.state = .sourcing .latency) ∧
    (s.run.source.isSome = true → ∃ stage, s.run.state = .sourcing stage) ∧
    (s.run.settle.isSome = true → s.run.state = .settling)

/-- The engine measures the point at the point index exactly while the run is MEASURING; the point index lies in the plan while the run
is not IDLE, and short of its last point in HELD after a point; the plan has at most 16 points; LOAD carries REST_CODE in IDLE and on a
SLAVE, and the point's code in SOURCING, SETTLING and MEASURING (R28, R60, R88). -/
def MeasurementLaw (s : State) : Prop :=
  (s.engine.point = if s.run.state = .measuring then some s.run.index else none) ∧
    (s.engine.timer.isSome = true → s.engine.point.isSome = true) ∧
    (s.run.state ≠ .idle → s.run.index < s.plan.length) ∧
    (s.run.state = .held → s.run.measured = true → s.run.index + 1 < s.plan.length) ∧ s.plan.length ≤ Config.planPlaces ∧
    (s.run.state = .idle ∨ s.straps.role = .slave → s.run.load = s.settings.restCode) ∧
    (s.straps.role ≠ .slave → s.run.state ≠ .idle → s.run.state ≠ .held →
      ∀ point, s.plan[s.run.index]? = some point → s.run.load = point.load)

/-! ## The law of the carriage -/

/-- A move ends at its target, which is within TRAVEL. -/
def moveOk (count travel : Nat) (m : Move) : Prop :=
  m.target ≤ travel ∧ m.taken ≤ m.length ∧ (m.stage = .dwell → m.taken = m.length) ∧
    if m.forward then count + (m.length - m.taken) = m.target else m.target + (m.length - m.taken) = count

/-- Every queued position is within reach; while the unit is IDLE, MOVING or PRESSING the step count lies within TRAVEL, and a press
stands at its target (R147, R158); the phases are energised exactly outside UNHOMED and FAULT, and PRESS is asserted exactly in PRESSING
(R143); each timer of the unit runs only in its own state, and the excitation index lies in the pattern (R142, R145). -/
def CarriageLaw (s : State) : Prop :=
  (∀ p ∈ s.closure.queue, pressLocation s.settings p ≤ s.settings.travel) ∧
    (match s.closure.unit with
    | .idle => s.closure.stepCount ≤ s.settings.travel
    | .moving m => s.closure.stepCount ≤ s.settings.travel ∧ moveOk s.closure.stepCount s.settings.travel m
    | .pressing target => s.closure.stepCount ≤ s.settings.travel ∧ s.closure.stepCount = target
    | _ => True) ∧
    (s.closure.energised = decide (s.closure.unit ≠ .unhomed ∧ s.closure.unit ≠ .fault)) ∧
    (s.closure.press = s.closure.unit.isPressing) ∧
    (s.closure.stepTimer.isSome = true →
      s.closure.unit = .homing ∨ ∃ m, s.closure.unit = .moving m ∧ m.stage = .stepping) ∧
    (s.closure.dwellTimer.isSome = true → ∃ m, s.closure.unit = .moving m ∧ m.stage = .dwell) ∧
    (s.closure.pressTimer.isSome = true → s.closure.unit.isPressing = true) ∧
    s.closure.exIndex < if s.settings.excitation = .full then 4 else 8

/-! ## The laws of the link and of attention -/

/-- The frame being assembled is short of its end, and its LEN is 1..48 (R181). -/
def frameOpen : List Byte → Prop
  | [] => True
  | len :: rest => 1 ≤ len.toNat ∧ len.toNat ≤ Config.frameMax ∧ rest.length < len.toNat + 1

/-- A response is held exactly while its quiet time runs or it is sent, TXEN is asserted exactly while RESPONDING, the gap timer runs
only in LISTENING, and the cursor and the mark lie in 0..48 (R181, R183, R190; log 21). -/
def LinkLaw (s : State) : Prop :=
  let l := s.link
  (l.response.isSome = true ↔ l.quiet = true ∨ l.receiver = .responding) ∧
    (l.quiet = true → l.receiver = .idle) ∧ (l.txen = true ↔ l.receiver = .responding) ∧
    (match l.receiver with
      | .listening _ frame => frameOpen frame
      | _ => l.gap = false) ∧
    l.cursor ≤ 48 ∧ l.mark ≤ 48

/-- The class of a level, 1..6, is pending (R194). -/
def isPending (a : Attention) (level : Nat) : Prop :=
  match level with
  | 1 => a.stockLow.isSome = true
  | 2 => a.operator.isSome = true
  | 3 => a.closed.isSome = true
  | 4 => a.pointEnd.isSome = true
  | 5 => a.runEnd.isSome = true
  | 6 => a.fault.isSome = true
  | _ => False

/-- The level calls the host: its class is pending and enabled, and above every class in service (R195). -/
def calls (s : State) (level : Nat) : Prop :=
  isPending s.attn level ∧ s.settings.attnMask.getLsbD (level - 1) = true ∧
    ∀ other, s.attn.inService.getLsbD other = true → other + 1 < level

/-- ATN is asserted exactly while some class calls the host (R195). -/
def AtnLaw (s : State) : Prop := s.attn.atn = true ↔ ∃ level, calls s level

end Sys2Proof.Machine
end

