-- ==== Sys2Proof/Certificates/Slice0/Obligations.lean ====
section
/-! DEFINITION. The statements about the model, in the order of OBLIGATIONS.json. -/

open Sys2Proof Sys2Proof.Machine

/-! ## The part as a whole -/

/-- One step carries out the command at the front of the queue on the state with the rest; with nothing waiting the part idles, which
is the model's choice (log 11). -/
def Obligations.StepRunsTheFrontCommand : Prop :=
  (∀ (c : Instr) (rest : List Instr) (s : State),
    step { s with pending := c :: rest } = exec c { s with pending := rest }) ∧
  ∀ s : State, s.pending = [] → step s = .next s

/-- No command stops the part, and none touches the commands that wait. R1 (log 3): the expiry of a timer that is not due leaves the part
as it is. By the model's choice (log 4) so does a confirmed change to the level already confirmed, but for the readings of PHASE and DONE.
By the model's choices a command answers a next state also in states that no run reaches (log 18), and FULL_RESET too leaves the waiting
commands (log 26); that a SOLO part takes the reading alone is deduced (log 14). -/
def Obligations.EveryCommandAnswersANextState : Prop :=
  (∀ (c : Instr) (s : State), ∃ t, exec c s = .next t ∧ t.pending = s.pending) ∧
  ∀ s : State,
    (¬Due s.front.window → exec .presenceWindowExpiry s = .next s) ∧ (¬Due s.engine.timer → exec .pointTimerExpiry s = .next s) ∧
    (¬Due s.run.latency → exec .latencyTimerExpiry s = .next s) ∧ (¬Due s.run.source → exec .sourceTimerExpiry s = .next s) ∧
    (¬Due s.run.settle → exec .settleTimerExpiry s = .next s) ∧ (¬Due s.run.guard → exec .guardTimerExpiry s = .next s) ∧
    (¬Due s.run.holdOff → exec .cascadeHoldOffExpiry s = .next s) ∧ (¬Due s.run.phaseLow → exec .phaseLowIntervalEnd s = .next s) ∧
    (¬Due s.closure.stepTimer → exec .stepTimerExpiry s = .next s) ∧ (¬Due s.closure.dwellTimer → exec .dwellTimerExpiry s = .next s) ∧
    (¬Due s.closure.pressTimer → exec .pressTimerExpiry s = .next s) ∧ (¬Due s.panel.modeTimer → exec .modeTimerExpiry s = .next s) ∧
    (∀ slot, ¬Due (s.panel.flashes.get slot) → exec (.refusalFlashExpiry slot) s = .next s) ∧
    (¬Due s.panel.lampTest → exec .lampTestExpiry s = .next s) ∧
    (∀ level, (s.run.srcReady.seeded = true ∧ s.run.srcReady.level = level →
        exec (if level then .srcReadyRise else .srcReadyFall) s = .next s) ∧
      (s.closure.home.seeded = true ∧ s.closure.home.level = level → exec (if level then .homeRise else .homeFall) s = .next s) ∧
      (s.closure.pressDone.seeded = true ∧ s.closure.pressDone.level = level →
        exec (if level then .pressDoneRise else .pressDoneFall) s = .next s) ∧
      (s.run.phaseLine.seeded = true ∧ s.run.phaseLine.level = level →
        exec (if level then .phaseRise else .phaseFall) s = .next { s with run := { s.run with phaseReading := level } }) ∧
      (s.run.doneLine.seeded = true ∧ s.run.doneLine.level = level →
        exec (if level then .doneRise else .doneFall) s = .next { s with run := { s.run with doneReading := level } }))

/-- R26, R42, R59, R86, R87, R110, R122, R141, R142, R161, R162, R163, R176, R177, R178, R198. The model's choices are named: the level
of a filter before its first sample is not stated here (log 8), a MASTER's PHASE that the reset makes fall stays low for 3 ms and an
interval from before it is dropped (log 13), the lamp rows drive nothing before the first tick (log 19), the first sample period runs at
the default rate (log 22), and the waiting commands stay (log 26). -/
def Obligations.FullResetLeavesEveryBlockAtItsResetValues : Prop :=
  ∀ (station : BitVec 4) (role rate : BitVec 2) (s : State),
    ∃ t, exec (.fullReset station role rate) s = .next t ∧
      (t.straps.station = station ∧ t.straps.rate = rate ∧ (role = 1 → t.straps.role = .master) ∧
        (role = 2 → t.straps.role = .slave) ∧ (role = 0 ∨ role = 3 → t.straps.role = .solo)) ∧
      (∀ id lo hi d, (id, lo, hi, d) ∈ settingTable → settingValue t.settings id = some d) ∧
      (t.link.receiver = .idle ∧ t.link.response = none ∧ t.link.txen = false ∧ t.link.gap = false ∧ t.link.quiet = false ∧
        t.link.rxWait = .afterReset ∧ t.link.cursor = 0 ∧ t.link.mark = 0 ∧ t.link.edit = false) ∧
      ((∀ level, ¬isPending t.attn level) ∧ t.attn.inService = 0 ∧ t.attn.atn = false) ∧
      ((∀ p, getRec t p = ⟨.vacant, none, [], none, none, none⟩) ∧ t.table.index = []) ∧ t.plan = [] ∧
      (t.front.rateNow = 1 ∧ t.front.counter = 0 ∧ t.front.present = false ∧ t.front.window = none ∧
        ∀ slot, (t.front.filters.get slot).pending = false ∧ (t.front.filters.get slot).seeded = false) ∧
      t.engine = ⟨none, none⟩ ∧
      (t.run.state = .idle ∧ t.run.index = 0 ∧ t.run.measured = false ∧ t.run.members = 0 ∧ t.run.done = 0 ∧
        t.run.hold = false ∧ t.run.ending = .none ∧ t.run.latency = none ∧ t.run.source = none ∧ t.run.settle = none ∧
        t.run.guard = none ∧ t.run.holdOff = none ∧ t.run.load = 0 ∧ t.run.phaseHigh = false ∧ t.run.doneLow = false ∧
        t.run.srcReady.seeded = false ∧ t.run.phaseLine.seeded = false ∧ t.run.doneLine.seeded = false) ∧
      (t.run.phaseLow = if s.run.phaseHigh = true ∧ t.straps.role = .master then some ⟨3, 3⟩ else none) ∧
      (∀ i, t.stock.get i = .empty) ∧
      (t.closure.queue = [] ∧ t.closure.tagInPress = none ∧ t.closure.unit = .unhomed ∧ t.closure.stepCount = 0 ∧
        t.closure.tally = 0 ∧ t.closure.exIndex = 0 ∧ t.closure.energised = false ∧ t.closure.press = false ∧
        t.closure.stepTimer = none ∧ t.closure.dwellTimer = none ∧ t.closure.pressTimer = none ∧ t.closure.lastFault = .none ∧
        t.closure.home.seeded = false ∧ t.closure.pressDone.seeded = false) ∧
      (t.panel.mode = .none ∧ t.panel.modeTimer = none ∧ t.panel.clock = 0 ∧ t.panel.lampTest = none ∧
        t.panel.column = 0 ∧ t.panel.scanPresses = 0 ∧ t.panel.scanBarred = false ∧ (∀ row, t.panel.drive.get row = ⟨0, 0⟩) ∧
        (∀ slot, t.panel.flashes.get slot = none) ∧
        ∀ k, (t.panel.keys.get k).pending = false ∧ (t.panel.keys.get k).seeded = false) ∧
      t.pending = s.pending

/-! ## Bench link -/

/-- R180, R182, R183, R184, for every request row: while RESPONDING it is not taken; an addressed one is always answered; a broadcast one
has the same effect and no answer if it may be broadcast, and is ignored otherwise. That a request row is a whole frame taken whatever the
receiver was assembling, and clears what the receiver waits for on RXD, is the model's choice (log 1). That the row carries how its frame
was addressed is deduced (log 2). -/
def Obligations.RequestsAreTakenOutsideRespondingAndAnsweredWhenAddressed : Prop :=
  ∀ (r : Request) (how : Addressing) (s : State),
    (s.link.receiver = .responding → exec (r.row how) s = .next s) ∧
    (CanTake s →
      (∃ st payload t, exec (r.row .addressed) s = answered .addressed st payload t ∧
        (r.code ∈ [0x02, 0x04, 0x30, 0x31, 0x32, 0x34, 0x41, 0x42, 0x43] →
          exec (r.row .broadcast) s = answered .broadcast st payload t)) ∧
      (r.code ∉ [0x02, 0x04, 0x30, 0x31, 0x32, 0x34, 0x41, 0x42, 0x43] →
        exec (r.row .broadcast) s = answered .broadcast .ok [] s))

/-- R180 to R182, R199: the characters of a request's frame, taken one after another, do what the request's row does. That a request row
is the whole frame is the model's choice (log 1); that it carries how the frame was addressed is deduced (log 2). -/
def Obligations.FrameCharactersCarryOutTheRequest : Prop :=
  ∀ (how : Addressing) (r : Request) (a : Byte) (s : State),
    CanTake s → s.link.rxWait = .none → r.params.length ≤ 47 →
    (a = s.straps.station.setWidth 8 ∧ how = .addressed ∨ a = 0x7F ∧ how = .broadcast) →
    execAll (.addressCharacter a :: r.frame.map .dataCharacter) s = exec (r.row how) s

/-- R182, R199, R201: a request is read back from its code and its parameter bytes, every field at every value. -/
def Obligations.ParametersReadBackAsWritten : Prop :=
  ∀ r : Request, r.params.length ≤ 47 → parseRequest (byte r.code) r.params = .request r

/-- R178, R179, R180, R183: an address character starts a frame of its own station or a broadcast one, sends the receiver to IGNORING
otherwise, and cancels a pending response; RESPONDING takes none, and none arrives before RXD has been high long enough. That a character
is taken whole is the model's choice (log 20). -/
def Obligations.AddressCharacterSelectsTheReceiver : Prop :=
  ∀ (value : Byte) (s : State),
    (s.link.receiver = .responding ∨ s.link.rxWait ≠ .none → exec (.addressCharacter value) s = .next s) ∧
    (CanTake s → s.link.rxWait = .none →
      exec (.addressCharacter value) s = .next { s with link := { s.link with
        receiver := if value = s.straps.station.setWidth 8 then .listening .addressed []
          else if value = 0x7F then .listening .broadcast [] else .ignoring
        gap := decide (value = s.straps.station.setWidth 8 ∨ value = 0x7F), quiet := false, response := none } })

/-- R180, R181, R182, R193: a data character is ignored outside LISTENING; in LISTENING it is LEN, then CMD and the parameters, then CHK;
a bad LEN or a bad sum drops the frame; a good one is refused as UNKNOWN or BAD_LENGTH, or carried out. That a character is taken whole
(log 20), and that a request row is the whole frame (log 1), are the model's choices. -/
def Obligations.DataCharacterIsTakenIntoTheFrame : Prop :=
  ∀ (value : Byte) (s : State),
    (s.link.receiver = .responding ∨ s.link.receiver = .idle ∨ s.link.receiver = .ignoring ∨ s.link.rxWait ≠ .none →
      exec (.dataCharacter value) s = .next s) ∧
    ∀ how : Addressing, s.link.rxWait = .none →
      (s.link.receiver = .listening how [] →
        exec (.dataCharacter value) s = .next { s with link :=
          if value.toNat = 0 ∨ 48 < value.toNat then { s.link with receiver := .idle, gap := false }
          else { s.link with receiver := .listening how [value], gap := true } }) ∧
      ∀ (len : Byte) (rest : List Byte), s.link.receiver = .listening how (len :: rest) →
        (rest.length < len.toNat →
          exec (.dataCharacter value) s = .next { s with link := { s.link with
            receiver := .listening how (len :: rest ++ [value]), gap := true } }) ∧
        (rest.length = len.toNat → (len :: rest ++ [value]).foldl (· + ·) 0 ≠ 255 →
          exec (.dataCharacter value) s = .next { s with link := { s.link with receiver := .idle, gap := false } }) ∧
        (∀ cmd params, rest = cmd :: params → rest.length = len.toNat → (len :: rest ++ [value]).foldl (· + ·) 0 = 255 →
          (parseRequest cmd params = .unknown →
            exec (.dataCharacter value) s = answered how .unknown [] s) ∧
          (parseRequest cmd params = .badLength →
            exec (.dataCharacter value) s = answered how .badLength
              (if cmd = 0x2E then [byte s.link.cursor, byte s.link.cursor] else []) s) ∧
          ∀ r, parseRequest cmd params = .request r → exec (.dataCharacter value) s = exec (r.row how) s)

/-- R178, R179, R181: a framing error abandons a frame being assembled and makes the receiver wait for RXD high; the gap timer's expiry
abandons the frame; an accepted start bit stops the gap timer; in RESPONDING RXD is not watched. Each bit of a character is what two of
its three samples read: a start bit read high is noise, a stop bit read low a framing error, and anything else a character. That the
samples come to commands which the part then takes whole is the model's choice (log 20), and so is that the expiry of a gap timer that
does not run changes nothing (log 3). -/
def Obligations.FramingErrorsAndGapsAbandonTheFrame : Prop :=
  ∀ s : State,
    (CanTake s → s.link.rxWait = .none →
      (∀ how frame, s.link.receiver = .listening how frame →
        exec .framingError s = .next { s with link := { s.link with
          receiver := .idle, gap := false, rxWait := .afterFramingError } }) ∧
      (s.link.receiver = .idle ∨ s.link.receiver = .ignoring →
        exec .framingError s = .next { s with link := { s.link with rxWait := .afterFramingError } }) ∧
      exec .startBitAccepted s = .next { s with link := { s.link with gap := false } }) ∧
    (∀ how frame, s.link.receiver = .listening how frame → s.link.gap = true →
      exec .gapTimerExpiry s = .next { s with link := { s.link with receiver := .idle, gap := false } }) ∧
    (s.link.gap = false → exec .gapTimerExpiry s = .next s) ∧
    (s.link.receiver = .responding → exec .framingError s = .next s) ∧
    (s.link.receiver = .responding → exec .startBitAccepted s = .next s ∧ exec .rxdHighInterval s = .next s) ∧
    (CanTake s → exec .rxdHighInterval s = .next { s with link := { s.link with rxWait := .none } }) ∧
    ∀ samples : Tbl 11 Samples,
      let reads := fun (i : Fin 11) (level : Bool) =>
        (samples.get i).first = level ∧ (samples.get i).second = level ∨
          (samples.get i).first = level ∧ (samples.get i).third = level ∨
          (samples.get i).second = level ∧ (samples.get i).third = level
      (reads 0 true → sampledCommands samples = []) ∧
      (reads 0 false → reads 10 false → sampledCommands samples = [.startBitAccepted, .framingError]) ∧
      ∀ (mark : Bool) (value : Byte), reads 0 false → (∀ i : Fin 8, reads ⟨i.val + 1, by omega⟩ (value.getLsbD i.val)) →
        reads 9 mark → reads 10 true →
        sampledCommands samples = [.startBitAccepted, if mark then .addressCharacter value else .dataCharacter value]

/-- R179, R183, R199: at the end of the quiet time the response is sent with its address, LEN, STATUS, payload and check byte, each
character as a start bit, eight data bits from the least significant on, its mark and a stop bit; after the last stop bit TXEN is
released. By the model's choices TXD is derived from the state (log 20), the expiry of a quiet timer that does not run and a RESPONSE_SENT
outside RESPONDING change nothing (log 3), and the response stays in its buffer until it has been sent (log 21). -/
def Obligations.ResponseIsSentAfterTheQuietTime : Prop :=
  ∀ s : State,
    (s.link.quiet = true → ∀ r, s.link.response = some r →
      ∃ t chk, exec .quietTimerExpiry s = .next t ∧
        t = { s with link := { s.link with receiver := .responding, quiet := false, txen := true } } ∧
        txCharacters t = (true, 0x80 + s.straps.station.setWidth 8) ::
          ((byte (r.payload.length + 1) :: r.status.code :: r.payload) ++ [chk]).map (fun b => (false, b)) ∧
        txBits t = (txCharacters t).flatMap (fun c => [false, c.2.getLsbD 0, c.2.getLsbD 1, c.2.getLsbD 2, c.2.getLsbD 3, c.2.getLsbD 4,
          c.2.getLsbD 5, c.2.getLsbD 6, c.2.getLsbD 7, c.1, true]) ∧
        ((byte (r.payload.length + 1) :: r.status.code :: r.payload) ++ [chk]).foldl (· + ·) 0 = 255) ∧
    (s.link.quiet = false → exec .quietTimerExpiry s = .next s) ∧
    (s.link.receiver = .responding →
      ∃ t, exec .responseSent s = .next t ∧
        t = { s with link := { s.link with receiver := .idle, txen := false, response := none } } ∧ txCharacters t = []) ∧
    (CanTake s → exec .responseSent s = .next s ∧ txBits s = [])

/-! ## Settings, identification, attention -/

/-- R44, R53, R88, R158, R185, R195: a SET of a known id, accepted, brings the value into its range, holds it, and does beside it what
its owner says; a SET of the value already held leaves the closure unit as it was; refused by the owner's state or by the reach check it
changes nothing; an unknown id is OUT_OF_RANGE. That a change of EXCITATION zeroes the excitation index in UNHOMED and FAULT too is the
model's (log 17). -/
def Obligations.SetBringsTheValueIntoRangeAndHoldsIt : Prop :=
  ∀ (how : Addressing) (id : Byte) (value : BitVec 32) (s : State), CanTake s →
    ((∀ lo hi d, (id.toNat, lo, hi, d) ∉ settingTable) →
      exec (setRow how id value) s = answered how .outOfRange [] s) ∧
    ∀ lo hi d, (id.toNat, lo, hi, d) ∈ settingTable →
      let n := max lo (min hi value.toNat)
      (¬SetOpen id.toNat s → exec (setRow how id value) s = answered how .wrongState [] s) ∧
      (SetOpen id.toNat s → GeometryId id.toNat → ¬ReachKept (writeSetting s.settings id.toNat n) s →
        exec (setRow how id value) s = answered how .wrongState [] s) ∧
      (SetOpen id.toNat s → (GeometryId id.toNat → ReachKept (writeSetting s.settings id.toNat n) s) →
        ∃ t, exec (setRow how id value) s =
            answered how (if lo ≤ value.toNat ∧ value.toNat ≤ hi then .ok else .clamped) (id :: be 4 n) t ∧
          OnlyChanges [.settings, .run, .closure, .attn] s t ∧
          settingValue t.settings id.toNat = some n ∧
          (∀ other, other ≠ id.toNat → settingValue t.settings other = settingValue s.settings other) ∧
          t.run = (if id = 0x12 ∧ (s.run.state = .idle ∨ s.straps.role = .slave) then { s.run with load := BitVec.ofNat 12 n }
            else s.run) ∧
          t.closure = (if id = 0x20 ∧ settingValue s.settings 0x20 ≠ some n then
              { s.closure with unit := .unhomed, energised := false, exIndex := 0 }
            else if id = 0x26 ∧ settingValue s.settings 0x26 ≠ some n ∧ n < s.closure.stepCount then { s.closure with unit := .unhomed, energised := false }
            else s.closure) ∧
          (∃ atn, t.attn = { s.attn with atn := atn }) ∧ (id ≠ 0x40 → t.attn = s.attn) ∧ (id = 0x40 → AtnLaw t))

/-- R186 and R187. -/
def Obligations.GetAndIdentifyReportWhatThePartHolds : Prop :=
  (∀ (id : Byte) (s : State), CanTake s →
    ((∀ lo hi d, (id.toNat, lo, hi, d) ∉ settingTable) →
      exec (.get .addressed id) s = answered .addressed .outOfRange [] s) ∧
    (∀ lo hi d, (id.toNat, lo, hi, d) ∈ settingTable →
      ∃ n, settingValue s.settings id.toNat = some n ∧
        exec (.get .addressed id) s = answered .addressed .ok (id :: be 4 n) s) ∧
    exec (.get .broadcast id) s = answered .broadcast .ok [] s) ∧
  (∀ station role rate (s : State), ∃ t, exec (.fullReset station role rate) s = .next t ∧
    ∀ id lo hi d, (id, lo, hi, d) ∈ settingTable → settingValue t.settings id = some d) ∧
  (∀ how (s : State), ∃ t, exec (.benchClear how) s = .next t ∧ t.settings = s.settings) ∧
  ∀ s : State, CanTake s →
    exec (.identify .addressed) s = answered .addressed .ok
      [0x48, 0x44, 0x50, 0x12, 0xD4, 1, s.straps.station.setWidth 8,
        (match s.straps.role with | .solo => 0 | .master => 1 | .slave => 2), 48, 16, 4] s ∧
    exec (.identify .broadcast) s = answered .broadcast .ok [] s

/-- R188 and R189, with R176: BENCH_CLEAR is refused while the bench is at work or holds unreported tags, and otherwise empties it; a
key pressed in the scan under way and held down across it does not act at the scan's end, as deduced from R176 (log 23). -/
def Obligations.BenchClearEmptiesAQuietBench : Prop :=
  ∀ (how : Addressing) (s : State), CanTake s →
    let busy := s.run.state ≠ .idle ∨ UnitBusy s.closure.unit ∨ s.closure.queue ≠ []
    let unreported := ∃ p, (getRec s p).state = .closed ∧ (∀ tag, (getRec s p).closure = some tag → tag.acknowledged = false) ∨
      (getRec s p).state = .passed ∧ (getRec s p).spoiled ≠ none
    (busy → exec (.benchClear how) s = answered how .busy [] s) ∧
    (¬busy → unreported → exec (.benchClear how) s = answered how .unreported [] s) ∧
    (¬busy → ¬unreported →
      ∃ t, exec (.benchClear how) s = answered how .ok [] t ∧
        t = { s with
          table := ⟨Tbl.fill 48 ⟨.vacant, none, [], none, none, none⟩, []⟩
          link := { s.link with cursor := 0, mark := 0, edit := false }
          attn := ⟨none, none, none, none, none, none, 0, false⟩
          panel := { s.panel with mode := .none, modeTimer := none, scanBarred := t.panel.scanBarred } } ∧
        (t.panel.scanBarred = true ↔ s.panel.scanBarred = true ∨
          ∃ k : Fin 56, s.panel.scanPresses.getLsbD k.val = true ∧ (s.panel.keys.get k).level = true) ∧
        ((∃ k : Fin 56, s.panel.scanPresses.getLsbD k.val = true ∧ (s.panel.keys.get k).level = true) →
          endScan t = { t with panel := { t.panel with scanPresses := 0, scanBarred := false } }) ∧
        ∀ slot, s.panel.lampTest = none → s.panel.flashes.get slot = none → lampAppearance t slot = ⟨false, false, .off⟩)

/-- R196, with the detail layouts of R202: ATTEND hands over the highest level that calls, with its detail, and puts it in service. -/
def Obligations.AttendHandsOverTheHighestCallingClass : Prop :=
  ∀ s : State, CanTake s →
    ((∀ level, ¬calls s level) → exec (.attend .addressed) s = answered .addressed .ok [0] s) ∧
    ∀ level, calls s level → (∀ higher, level < higher → ¬calls s higher) →
      ∃ detail t, exec (.attend .addressed) s = answered .addressed .ok (byte level :: detail) t ∧
        OnlyChanges [.attn] s t ∧
        (∀ n, level = 1 → s.attn.stockLow = some n → detail = be 4 n) ∧
        (∀ d, level = 2 → s.attn.operator = some d →
          detail = be 6 d.loaded.toNat ++ be 6 d.removed.toNat ++ be 6 d.blocked.toNat) ∧
        (∀ d, level = 3 → s.attn.closed = some d → detail = be 6 d.toNat) ∧
        (∀ d, level = 4 → s.attn.pointEnd = some d → detail = byte d.index :: be 6 d.short.toNat) ∧
        (∀ d, level = 5 → s.attn.runEnd = some d → detail = [d.code]) ∧
        (∀ d, level = 6 → s.attn.fault = some d → detail = byte d.kinds.toNat :: be 6 d.positions.toNat) ∧
        t.attn = { t.attn with
          stockLow := if level = 1 then none else s.attn.stockLow
          operator := if level = 2 then none else s.attn.operator
          closed := if level = 3 then none else s.attn.closed
          pointEnd := if level = 4 then none else s.attn.pointEnd
          runEnd := if level = 5 then none else s.attn.runEnd
          fault := if level = 6 then none else s.attn.fault
          inService := s.attn.inService ||| BitVec.twoPow 6 (level - 1) } ∧
        AtnLaw t

/-- R197. -/
def Obligations.AttendDoneEndsServiceOfALevel : Prop :=
  ∀ (level : Byte) (s : State), CanTake s →
    (level.toNat < 1 ∨ 6 < level.toNat →
      exec (.attendDone .addressed level) s = answered .addressed .outOfRange [] s) ∧
    (1 ≤ level.toNat → level.toNat ≤ 6 → s.attn.inService.getLsbD (level.toNat - 1) = false →
      exec (.attendDone .addressed level) s = answered .addressed .wrongState [] s) ∧
    (1 ≤ level.toNat → level.toNat ≤ 6 → s.attn.inService.getLsbD (level.toNat - 1) = true →
      ∃ t atn, exec (.attendDone .addressed level) s = answered .addressed .ok [] t ∧
        t = { s with attn := { s.attn with
          inService := s.attn.inService &&& ~~~BitVec.twoPow 6 (level.toNat - 1), atn := atn } } ∧ AtnLaw t) ∧
    exec (.attendDone .broadcast level) s = answered .broadcast .ok [] s

/-- R194, R195: what each raise does to its class's detail, with everything else of the part as it was and ATN set afresh. -/
def Obligations.EveryRaiseMergesIntoItsClass : Prop :=
  ∀ s : State,
    (∀ n, ∃ atn, raiseStockLow n s = { s with attn := { s.attn with stockLow := some n, atn := atn } } ∧
      AtnLaw (raiseStockLow n s)) ∧
    (∀ news, ∃ atn, raiseOperator news s = { s with attn := { s.attn with
        operator := some (match s.attn.operator with
          | none => news
          | some d => ⟨d.loaded ||| news.loaded, d.removed ||| news.removed, d.blocked ||| news.blocked⟩)
        atn := atn } } ∧ AtnLaw (raiseOperator news s)) ∧
    (∀ set, ∃ atn, raiseClosed set s = { s with attn := { s.attn with
        closed := some (match s.attn.closed with | none => set | some d => d ||| set), atn := atn } } ∧
      AtnLaw (raiseClosed set s)) ∧
    (∀ index short, ∃ atn, raisePointEnd index short s = { s with attn := { s.attn with
        pointEnd := some ⟨index, match s.attn.pointEnd with | none => short | some d => d.short ||| short⟩, atn := atn } } ∧
      AtnLaw (raisePointEnd index short s)) ∧
    (∀ ending, ∃ atn, raiseRunEnd ending s = { s with attn := { s.attn with runEnd := some ending, atn := atn } } ∧
      AtnLaw (raiseRunEnd ending s)) ∧
    ∀ kind set, ∃ atn, raiseFault kind set s = { s with attn := { s.attn with
        fault := some (match s.attn.fault with | none => ⟨kind, set⟩ | some d => ⟨d.kinds ||| kind, d.positions ||| set⟩)
        atn := atn } } ∧ AtnLaw (raiseFault kind set s)

/-! ## Position records -/

/-- R10, R11, R12: MOUNT puts the identity into a VACANT record and the serial into the index, under its checks in their order; CONFIRM
makes a MOUNTED record READY and leaves the run as it is. -/
def Obligations.MountAndConfirmBringAMeterToReady : Prop :=
  (∀ (b : Byte) (mr : BitVec 32) (sense cls : Byte) (serial : List Byte) (s : State), CanTake s →
    let serialBad := serial.length = 0 ∨ 16 < serial.length ∨ ∃ c ∈ serial, c.toNat < 0x20 ∨ 0x7E < c.toNat
    (48 ≤ b.toNat ∨ mr = 0 ∨ 1 < sense.toNat ∨ 3 < cls.toNat ∨ serialBad →
      exec (.mount .addressed b mr sense cls serial) s = answered .addressed .outOfRange [] s) ∧
    ∀ (p : Pos) (k : Fin 4), b.toNat = p.val → mr ≠ 0 → sense.toNat ≤ 1 → cls.toNat = k.val → ¬serialBad →
      ((getRec s p).state ≠ .vacant →
        exec (.mount .addressed b mr sense cls serial) s = answered .addressed .wrongState [] s) ∧
      ((getRec s p).state = .vacant → (∃ q, (q, serial) ∈ s.table.index) →
        exec (.mount .addressed b mr sense cls serial) s = answered .addressed .duplicate [] s) ∧
      ((getRec s p).state = .vacant → (∀ q, (q, serial) ∉ s.table.index) →
        ∃ index, (∀ e, e ∈ index ↔ e = (p, serial) ∨ e ∈ s.table.index) ∧
          exec (.mount .addressed b mr sense cls serial) s = answered .addressed .ok [] { s with
            table := ⟨s.table.records.set p ⟨.mounted,
              some ⟨serial, mr.toNat, if sense = 0 then .rising else .falling, k⟩, [], none, none, none⟩, index⟩ })) ∧
  ∀ (b : Byte) (s : State), CanTake s →
    (48 ≤ b.toNat → exec (.confirm .addressed b) s = answered .addressed .outOfRange [] s) ∧
    ∀ p : Pos, b.toNat = p.val →
      ((getRec s p).state = .mounted →
        exec (.confirm .addressed b) s = answered .addressed .ok [] (putRec s p { getRec s p with state := .ready })) ∧
      ((getRec s p).state ≠ .mounted →
        exec (.confirm .addressed b) s = answered .addressed .wrongState [] s)

/-- R13, R193: SET_METER gives a MOUNTED or READY record its three new fields; SET_METER_NEXT does the same at the cursor, which then
advances whatever the status. -/
def Obligations.SetMeterReplacesRatioSenseAndClass : Prop :=
  ∀ (mr : BitVec 32) (sense cls : Byte) (s : State), CanTake s →
    let bad := mr = 0 ∨ 1 < sense.toNat ∨ 3 < cls.toNat
    let mayChange := fun p : Pos => (getRec s p).state = .mounted ∨ (getRec s p).state = .ready
    let changed := fun (p : Pos) (k : Fin 4) => putRec s p { getRec s p with
      identity := (getRec s p).identity.map fun i =>
        { i with mr := mr.toNat, sense := if sense = 0 then .rising else .falling, cls := k } }
    (∀ b : Byte,
      (48 ≤ b.toNat ∨ bad → exec (.setMeter .addressed b mr sense cls) s = answered .addressed .outOfRange [] s) ∧
      ∀ p : Pos, b.toNat = p.val → ¬bad →
        (¬mayChange p → exec (.setMeter .addressed b mr sense cls) s = answered .addressed .wrongState [] s) ∧
        (mayChange p → ∀ k : Fin 4, cls.toNat = k.val →
          exec (.setMeter .addressed b mr sense cls) s = answered .addressed .ok [] (changed p k))) ∧
    (48 ≤ s.link.cursor → exec (.setMeterNext .addressed mr sense cls) s =
      answered .addressed .outOfRange [byte s.link.cursor, byte s.link.cursor] s) ∧
    ∀ p : Pos, s.link.cursor = p.val →
      let moved := fun t : State => { t with link := { t.link with cursor := p.val + 1 } }
      (bad → exec (.setMeterNext .addressed mr sense cls) s =
        answered .addressed .outOfRange [byte p.val, byte (p.val + 1)] (moved s)) ∧
      (¬bad → ¬mayChange p → exec (.setMeterNext .addressed mr sense cls) s =
        answered .addressed .wrongState [byte p.val, byte (p.val + 1)] (moved s)) ∧
      (¬bad → mayChange p → ∀ k : Fin 4, cls.toNat = k.val → exec (.setMeterNext .addressed mr sense cls) s =
        answered .addressed .ok [byte p.val, byte (p.val + 1)] (moved (changed p k)))

/-- R17. -/
def Obligations.RetireTakesARecordBackToVacant : Prop :=
  ∀ (b : Byte) (s : State), CanTake s →
    (48 ≤ b.toNat → exec (.retire .addressed b) s = answered .addressed .outOfRange [] s) ∧
    ∀ p : Pos, b.toNat = p.val →
      let r := getRec s p
      let acknowledged := ∃ tag, r.closure = some tag ∧ tag.acknowledged = true
      (r.state = .vacant → exec (.retire .addressed b) s = answered .addressed .wrongState [] s) ∧
      (r.state = .active ∨ r.state = .closing → exec (.retire .addressed b) s = answered .addressed .busy [] s) ∧
      (r.state = .passed ∧ r.spoiled ≠ none ∨ r.state = .closed ∧ ¬acknowledged →
        exec (.retire .addressed b) s = answered .addressed .unreported [] s) ∧
      (r.state = .mounted ∨ r.state = .ready ∨ r.state = .failed ∨ r.state = .passed ∧ r.spoiled = none ∨
          r.state = .closed ∧ acknowledged →
        exec (.retire .addressed b) s = answered .addressed .ok [] { s with
          table := ⟨s.table.records.set p ⟨.vacant, none, [], none, none, none⟩,
            s.table.index.filter fun e => e.1 != p⟩ })

/-- R19. -/
def Obligations.RetestReturnsAJudgedRecordToReady : Prop :=
  ∀ (b : Byte) (s : State), CanTake s →
    (48 ≤ b.toNat → exec (.retest .addressed b) s = answered .addressed .outOfRange [] s) ∧
    ∀ p : Pos, b.toNat = p.val →
      let r := getRec s p
      (r.state = .failed ∨ r.state = .passed ∧ r.spoiled = none →
        exec (.retest .addressed b) s = answered .addressed .ok [] (putRec s p { r with state := .ready, results := [] })) ∧
      (r.state = .passed → r.spoiled ≠ none →
        exec (.retest .addressed b) s = answered .addressed .unreported [] s) ∧
      (r.state = .vacant ∨ r.state = .mounted ∨ r.state = .ready ∨ r.state = .active ∨ r.state = .closing ∨ r.state = .closed →
        exec (.retest .addressed b) s = answered .addressed .wrongState [] s)

/-- R20, R21: ACK_TAG sets the acknowledged flag of the tag quoted, ACK_SPOILED removes the spoiled tag quoted. -/
def Obligations.TagsAreAcknowledgedByTheirNumber : Prop :=
  ∀ (b : Byte) (tag : BitVec 32) (s : State), CanTake s →
    let bad := tag.toNat < 1 ∨ 999999999 < tag.toNat
    (48 ≤ b.toNat ∨ bad →
      exec (.ackTag .addressed b tag) s = answered .addressed .outOfRange [] s ∧
      exec (.ackSpoiled .addressed b tag) s = answered .addressed .outOfRange [] s) ∧
    ∀ p : Pos, b.toNat = p.val → ¬bad →
      let r := getRec s p
      (r.state ≠ .closed → exec (.ackTag .addressed b tag) s = answered .addressed .wrongState [] s) ∧
      (∀ held, r.state = .closed → r.closure = some held →
        (held.number ≠ tag.toNat → exec (.ackTag .addressed b tag) s = answered .addressed .mismatch [] s) ∧
        (held.number = tag.toNat → exec (.ackTag .addressed b tag) s =
          answered .addressed .ok [] (putRec s p { r with closure := some ⟨held.number, true⟩ }))) ∧
      (r.spoiled = none → exec (.ackSpoiled .addressed b tag) s = answered .addressed .wrongState [] s) ∧
      ∀ number, r.spoiled = some number →
        (number ≠ tag.toNat → exec (.ackSpoiled .addressed b tag) s = answered .addressed .mismatch [] s) ∧
        (number = tag.toNat → exec (.ackSpoiled .addressed b tag) s =
          answered .addressed .ok [] (putRec s p { r with spoiled := none }))

/-- R14, R200: READ_RECORD answers every section with each field at its place, and changes nothing. Sections 1 to 4 carry four results
or fillers each; section 5 is for an ACTIVE record. The codes of enumerated fields are those of R200, and the status codes those of the
table in 00, Conventions. -/
def Obligations.ReadRecordReturnsTheSectionAsked : Prop :=
  ([PosState.vacant, .mounted, .ready, .active, .passed, .failed, .closing, .closed].map (·.code) = [0, 1, 2, 3, 4, 5, 6, 7] ∧
    [Sense.rising, .falling].map (·.code) = [0, 1] ∧ [Method.error, .start, .creep].map (·.code) = [0, 1, 2] ∧
    [PointOutcome.notRun, .pass, .fail, .noPulse, .noReference, .excluded, .cut].map (·.code) = [0, 1, 2, 3, 4, 5, 6] ∧
    [Phase.awaitEdge, .gateOpen, .done].map (·.code) = [0, 1, 2] ∧
    [Status.ok, .clamped, .unknown, .badLength, .outOfRange, .wrongState, .busy, .duplicate, .notFound, .noStock, .overlap, .mismatch,
      .unreported, .outOfReach, .verdictsHeld].map (·.code) =
      [0x00, 0x01, 0x10, 0x11, 0x12, 0x13, 0x14, 0x15, 0x16, 0x17, 0x18, 0x19, 0x1A, 0x1B, 0x1C]) ∧
  ∀ (b sec : Byte) (s : State), CanTake s →
    (48 ≤ b.toNat ∨ 5 < sec.toNat → exec (.readRecord .addressed b sec) s = answered .addressed .outOfRange [] s) ∧
    ∀ p : Pos, b.toNat = p.val →
      let r := getRec s p
      (sec.toNat = 0 → ∃ d, exec (.readRecord .addressed b sec) s = answered .addressed .ok d s ∧
        d.take 4 = [b, 0, r.state.code, byte ((if r.identity = none then 0 else 1) + (if r.closure = none then 0 else 2) +
          (if r.closure.any (·.acknowledged) then 4 else 0) + if r.spoiled = none then 0 else 8)] ∧
        fieldAt d 10 1 = r.results.length % 256 ∧
        fieldAt d 11 4 = (match r.closure with | some tag => tag.number | none => 0) % 2 ^ 32 ∧
        fieldAt d 15 4 = r.spoiled.getD 0 % 2 ^ 32 ∧
        (r.identity = none → d.drop 20 = List.replicate 16 0 ∧ fieldAt d 4 6 = 0 ∧ fieldAt d 19 1 = 0) ∧
        ∀ i, r.identity = some i →
          fieldAt d 4 4 = i.mr % 2 ^ 32 ∧ fieldAt d 8 1 = i.sense.code.toNat ∧ fieldAt d 9 1 = i.cls.val ∧
          fieldAt d 19 1 = i.serial.length % 256 ∧ d.drop 20 = i.serial ++ List.replicate (16 - i.serial.length) 0) ∧
      (∀ k, sec.toNat = k → 1 ≤ k → k ≤ 4 → ∃ d, exec (.readRecord .addressed b sec) s = answered .addressed .ok d s ∧
        d.length = 42 ∧ d.take 2 = [b, sec] ∧
        ∀ j, j < 4 → (d.drop (2 + 10 * j)).take 10 =
          match r.results[4 * (k - 1) + j]? with
          | none => List.replicate 10 0
          | some e => [e.outcome.code, e.method.code, byte e.repetitions,
              byte ((if e.value = none then 0 else 1) + (if e.spread = none then 0 else 2) + if e.saturated then 4 else 0)] ++
              beInt 3 (e.value.getD 0) ++ be 3 (e.spread.getD 0)) ∧
      (sec.toNat = 5 → r.state ≠ .active →
        exec (.readRecord .addressed b sec) s = answered .addressed .wrongState [] s) ∧
      ∀ c, sec.toNat = 5 → r.state = .active → r.context = some c →
        ∃ d, exec (.readRecord .addressed b sec) s = answered .addressed .ok d s ∧
          d.length = 23 ∧
          d.take 4 = [b, 5, c.phase.code, byte ((if c.range = none then 0 else 1) + if c.saturated then 2 else 0)] ∧
          fieldAt d 4 4 = c.c0.toNat ∧ fieldAt d 8 2 = c.edges % 2 ^ 16 ∧ (d.drop 10).take 4 = beInt 4 c.sum ∧
          (∀ lo hi, c.range = some (lo, hi) → (d.drop 14).take 3 = beInt 3 lo ∧ (d.drop 17).take 3 = beInt 3 hi) ∧
          (c.range = none → (d.drop 14).take 6 = [0, 0, 0, 0, 0, 0]) ∧
          fieldAt d 20 1 = c.repetitions % 256 ∧ fieldAt d 21 2 = c.pulses % 2 ^ 16

/-- R9, R10, R16: with the index as R9 keeps it, FIND answers the position and state of the one non-VACANT record that holds the
serial, and NOT_FOUND when none does. -/
def Obligations.FindAnswersTheRecordThatHoldsTheSerial : Prop :=
  ∀ (serial : List Byte) (s : State), CanTake s → IndexLaw s →
    let serialBad := serial.length = 0 ∨ 16 < serial.length ∨ ∃ c ∈ serial, c.toNat < 0x20 ∨ 0x7E < c.toNat
    (serialBad → exec (.find .addressed serial) s = answered .addressed .outOfRange [] s) ∧
    (¬serialBad → (∀ p i, (getRec s p).identity = some i → i.serial ≠ serial) →
      exec (.find .addressed serial) s = answered .addressed .notFound [] s) ∧
    ∀ p i, ¬serialBad → (getRec s p).identity = some i → i.serial = serial →
      exec (.find .addressed serial) s = answered .addressed .ok [byte p.val, (getRec s p).state.code] s

/-- R107, R108, R119: EXCLUDE fails a member, marks its NOT_RUN entries from the current point on, and takes it out of the run; what is
left of the run goes on, or ends EMPTIED with its lines at rest. That an emptied run outside MEASURING leaves a running 3 ms interval of
low PHASE running is the model's (log 25). -/
def Obligations.ExcludeTakesAMemberOutOfTheRun : Prop :=
  ∀ (b : Byte) (s : State), CanTake s →
    (48 ≤ b.toNat → exec (.exclude .addressed b) s = answered .addressed .outOfRange [] s) ∧
    ∀ p : Pos, b.toNat = p.val →
      let r := getRec s p
      (r.state ≠ .active → exec (.exclude .addressed b) s = answered .addressed .wrongState [] s) ∧
      (r.state = .active →
        ∃ results u, results.length = r.results.length ∧
          (∀ j e, r.results[j]? = some e → results[j]? =
            some (if s.run.index ≤ j ∧ e.outcome = .notRun then ⟨.excluded, e.method, 0, none, none, false⟩ else e)) ∧
          u = { putRec s p { r with state := .failed, results := results, context := none } with
            run := { s.run with members := s.run.members.erase p, done := s.run.done.erase p } } ∧
          (u.run.members ≠ 0 → exec (.exclude .addressed b) s = answered .addressed .ok [] (membersChanged u)) ∧
          (u.run.members = 0 →
            ∃ t atn, exec (.exclude .addressed b) s = answered .addressed .ok [] t ∧
              t = { u with
                engine := ⟨none, none⟩
                attn := { s.attn with runEnd := some .emptied, atn := atn }
                run := { s.run with
                  state := .idle, measured := false, members := 0, done := 0, hold := false, ending := .emptied,
                  latency := none, source := none, settle := none, guard := none, holdOff := none,
                  phaseLow := if s.run.phaseHigh then some ⟨3, 3⟩ else s.run.phaseLow, phaseHigh := false, doneLow := false,
                  load := s.settings.restCode } } ∧ AtnLaw t))

/-- R190, R191, R192: CURSOR_SET, READ_NEXT, EDIT_BEGIN and EDIT_END move the cursor and the mark as the rules give, and READ_NEXT
answers the records from the cursor on in eight bytes each. -/
def Obligations.TheRecordCursorWalksTheTable : Prop :=
  ∀ s : State, CanTake s →
    (∀ cursor : Byte,
      (48 < cursor.toNat → exec (.cursorSet .addressed cursor) s = answered .addressed .outOfRange [] s) ∧
      (cursor.toNat ≤ 48 → s.link.edit = true →
        exec (.cursorSet .addressed cursor) s = answered .addressed .wrongState [] s) ∧
      (cursor.toNat ≤ 48 → s.link.edit = false →
        exec (.cursorSet .addressed cursor) s =
          answered .addressed .ok [cursor] { s with link := { s.link with cursor := cursor.toNat } })) ∧
    (s.link.edit = false → exec (.editBegin .addressed) s = answered .addressed .ok [byte s.link.cursor]
      { s with link := { s.link with mark := s.link.cursor, edit := true } }) ∧
    (s.link.edit = true → exec (.editBegin .addressed) s = answered .addressed .wrongState [] s) ∧
    (s.link.edit = true → exec (.editEnd .addressed) s = answered .addressed .ok [byte s.link.mark]
      { s with link := { s.link with cursor := s.link.mark, edit := false } }) ∧
    (s.link.edit = false → exec (.editEnd .addressed) s = answered .addressed .wrongState [] s) ∧
    ∀ k : Byte,
      (k.toNat = 0 → exec (.readNext .addressed k) s = answered .addressed .outOfRange [] s) ∧
      (1 ≤ k.toNat → s.link.cursor ≤ 48 →
        ∃ count after d, count = min (min k.toNat 5) (48 - s.link.cursor) ∧
          after = (if s.link.edit then s.link.cursor else s.link.cursor + count) ∧
          exec (.readNext .addressed k) s = answered .addressed (if k.toNat ≤ 5 then .ok else .clamped)
            ([byte count, if s.link.cursor + count = 48 then 1 else 0, byte after] ++ d)
            { s with link := { s.link with cursor := after } } ∧
          d.length = 8 * count ∧
          ∀ j (p : Pos), j < count → p.val = s.link.cursor + j →
            let r := getRec s p
            (d.drop (8 * j)).take 8 =
              [byte p.val, r.state.code,
                byte ((if r.identity = none then 0 else 1) + (if r.closure = none then 0 else 2) +
                  (if r.closure.any (·.acknowledged) then 4 else 0) + (if r.spoiled = none then 0 else 8) +
                  if r.results.any (·.saturated) then 16 else 0),
                (match r.identity with | some i => byte i.cls.val | none => 0), byte r.results.length,
                byte (r.results.countP fun e => e.outcome = .pass),
                byte (r.results.countP fun e => e.outcome ≠ .pass ∧ e.outcome ≠ .notRun),
                match r.results.findIdx? (fun e => e.outcome ≠ .pass ∧ e.outcome ≠ .notRun) with
                | some i => byte i
                | none => 0xFF])

/-! ## Test plan -/

/-- R22, R32 to R37: the checks of a plan edit in their order, and what an accepted one does to the plan and to the results lists of
MOUNTED and READY records; addressed and broadcast alike. -/
def Obligations.PlanEditsAreCheckedAndEmptyTheOpenLists : Prop :=
  ∀ (how : Addressing) (s : State), CanTake s →
    let busy := s.run.state ≠ .idle
    let verdicts := ∃ p, (getRec s p).state = .passed ∨ (getRec s p).state = .failed
    let edited := fun (plan : List Point) (t : State) =>
      OnlyChanges [.plan, .table] s t ∧ t.plan = plan ∧ t.table.index = s.table.index ∧
        ∀ p, getRec t p = (if (getRec s p).state = .mounted ∨ (getRec s p).state = .ready then { getRec s p with results := [] }
          else getRec s p)
    ((busy → exec (.planClear how) s = answered how .busy [] s) ∧
      (¬busy → verdicts → exec (.planClear how) s = answered how .verdictsHeld [] s) ∧
      (¬busy → ¬verdicts → ∃ t, exec (.planClear how) s = answered how .ok [] t ∧ edited [] t)) ∧
    (∀ n : Byte,
      (busy → exec (.planTruncate how n) s = answered how .busy [] s) ∧
      (¬busy → verdicts → exec (.planTruncate how n) s = answered how .verdictsHeld [] s) ∧
      (¬busy → ¬verdicts → ∃ t, exec (.planTruncate how n) s =
          answered how (if s.plan.length < n.toNat then .clamped else .ok) [byte (min n.toNat s.plan.length)] t ∧
        edited (s.plan.take n.toNat) t)) ∧
    ∀ form : PointForm,
      (pointOf form = none →
        exec (.planAppend how form) s = answered how .outOfRange [] s ∧
        ∀ place, exec (.planReplace how place form) s = answered how .outOfRange [] s) ∧
      ∀ point, pointOf form = some point →
        ((busy → exec (.planAppend how form) s = answered how .busy [] s) ∧
          (¬busy → verdicts → exec (.planAppend how form) s = answered how .verdictsHeld [] s) ∧
          (¬busy → ¬verdicts → 16 ≤ s.plan.length → exec (.planAppend how form) s = answered how .outOfRange [] s) ∧
          (¬busy → ¬verdicts → s.plan.length < 16 → ∃ t, exec (.planAppend how form) s = answered how .ok [] t ∧
            edited (s.plan ++ [point]) t)) ∧
        ∀ place : Byte,
          (16 ≤ place.toNat → exec (.planReplace how place form) s = answered how .outOfRange [] s) ∧
          (place.toNat < 16 → busy → exec (.planReplace how place form) s = answered how .busy [] s) ∧
          (place.toNat < 16 → ¬busy → verdicts → exec (.planReplace how place form) s = answered how .verdictsHeld [] s) ∧
          (place.toNat < 16 → ¬busy → ¬verdicts → s.plan.length ≤ place.toNat →
            exec (.planReplace how place form) s = answered how .outOfRange [] s) ∧
          (place.toNat < 16 → ¬busy → ¬verdicts → place.toNat < s.plan.length →
            ∃ t, exec (.planReplace how place form) s = answered how .ok [] t ∧ edited (s.plan.set place.toNat point) t)

/-- R32, R38, R201: a form is taken exactly when the places the Store examines are in range, its point holds them as carried, and
PLAN_READ answers the length with the point's 43 bytes, each field at the place of R201 and those of the other two methods zero. -/
def Obligations.APointIsStoredAsCarriedAndReadBack : Prop :=
  (∀ f : PointForm,
    let d := pointFormBytes f
    d.length = 43 ∧ fieldAt d 0 1 = f.method.toNat ∧ fieldAt d 1 2 = f.load.toNat ∧ fieldAt d 3 4 = f.settle.toNat ∧
      fieldAt d 7 1 = f.pauseAfter.toNat ∧ fieldAt d 8 2 = f.n.toNat ∧ fieldAt d 10 1 = f.repetitions.toNat ∧
      fieldAt d 11 2 = f.timeout.toNat ∧
      (∀ k : Fin 4, fieldAt d (13 + 6 * k.val) 3 = (f.limits.get k).1.toNat ∧
        fieldAt d (16 + 6 * k.val) 3 = (f.limits.get k).2.toNat) ∧
      fieldAt d 37 2 = f.startWindow.toNat ∧ fieldAt d 39 1 = f.required.toNat ∧ fieldAt d 40 2 = f.creepWindow.toNat ∧
      fieldAt d 42 1 = f.allowed.toNat) ∧
  (∀ f : PointForm,
    let common := f.load.toNat ≤ 4095 ∧ f.settle.toNat ≤ 600000 ∧ f.pauseAfter.toNat ≤ 1
    let error := f.method = 0 ∧ 1 ≤ f.n.toNat ∧ f.n.toNat ≤ 1000 ∧ 1 ≤ f.repetitions.toNat ∧ f.repetitions.toNat ≤ 8 ∧
      1 ≤ f.timeout.toNat ∧ f.timeout.toNat ≤ 3600 ∧
      ∀ k, (f.limits.get k).1.toNat ≤ 999999 ∧ (f.limits.get k).2.toNat ≤ 999999
    let start := f.method = 1 ∧ 1 ≤ f.startWindow.toNat ∧ f.startWindow.toNat ≤ 3600 ∧ 1 ≤ f.required.toNat ∧ f.required.toNat ≤ 3
    let creep := f.method = 2 ∧ 1 ≤ f.creepWindow.toNat ∧ f.creepWindow.toNat ≤ 3600 ∧ f.allowed.toNat ≤ 3
    let zeros := { f with
      n := 0, repetitions := 0, timeout := 0, limits := Tbl.fill 4 (0, 0), startWindow := 0, required := 0, creepWindow := 0,
      allowed := 0 }
    (¬(common ∧ (error ∨ start ∨ creep)) → pointOf f = none) ∧
    ∀ body,
      (common ∧ error → body = .error f.n.toNat f.repetitions.toNat f.timeout.toNat
          (Tbl.ofFn fun k => ((f.limits.get k).1.toNat, (f.limits.get k).2.toNat)) →
        ∃ point, pointOf f = some point ∧ point = ⟨f.load.setWidth 12, f.settle.toNat, f.pauseAfter == 1, body⟩ ∧
          formOfPoint point = { f with startWindow := 0, required := 0, creepWindow := 0, allowed := 0 }) ∧
      (common ∧ start → body = .start f.startWindow.toNat f.required.toNat →
        ∃ point, pointOf f = some point ∧ point = ⟨f.load.setWidth 12, f.settle.toNat, f.pauseAfter == 1, body⟩ ∧
          formOfPoint point = { zeros with startWindow := f.startWindow, required := f.required }) ∧
      (common ∧ creep → body = .creep f.creepWindow.toNat f.allowed.toNat →
        ∃ point, pointOf f = some point ∧ point = ⟨f.load.setWidth 12, f.settle.toNat, f.pauseAfter == 1, body⟩ ∧
          formOfPoint point = { zeros with creepWindow := f.creepWindow, allowed := f.allowed })) ∧
  ∀ (place : Byte) (s : State), CanTake s →
    (16 ≤ place.toNat → exec (.planRead .addressed place) s = answered .addressed .outOfRange [] s) ∧
    (place.toNat < 16 → s.plan.length ≤ place.toNat → exec (.planRead .addressed place) s =
      answered .addressed .ok (byte s.plan.length :: 0 :: List.replicate 43 0) s) ∧
    ∀ point, place.toNat < 16 → s.plan[place.toNat]? = some point → exec (.planRead .addressed place) s =
      answered .addressed .ok (byte s.plan.length :: 1 :: pointFormBytes (formOfPoint point)) s

/-! ## Run control -/

/-- R91, R115, R4, R6: RUN_START is checked in its order; accepted, it makes every READY record a member with a rebuilt list and a new
context, and the run enters SOURCING, on a SLAVE FOLLOWING. -/
def Obligations.RunStartMakesTheReadyRecordsMembers : Prop :=
  ∀ s : State, CanTake s →
    let busy := s.run.state ≠ .idle ∨ s.straps.role = .slave ∧ s.run.phaseLine.level = true
    let nothingToDo := s.plan = [] ∨ ∀ p, (getRec s p).state ≠ .ready
    (busy → exec (.runStart .addressed) s = answered .addressed .busy [] s) ∧
    (¬busy → nothingToDo → exec (.runStart .addressed) s = answered .addressed .wrongState [] s) ∧
    (¬busy → ¬nothingToDo →
      ∃ u members, OnlyChanges [.table, .run] s u ∧ u.table.index = s.table.index ∧
        (∀ p, getRec u p = (if (getRec s p).state = .ready then { getRec s p with
            state := .active, results := s.plan.map fun point => ⟨.notRun, point.body.method, 0, none, none, false⟩
            context := some ⟨.awaitEdge, 0, 0, 0, none, 0, 0, false⟩ }
          else getRec s p)) ∧
        (∀ p, PosSet.has members p = true ↔ (getRec s p).state = .ready) ∧
        u.run = { s.run with
          state := if s.straps.role = .slave then .following else .idle
          index := 0, measured := false, hold := false, members := members, done := 0 } ∧
        (s.straps.role = .slave → exec (.runStart .addressed) s = answered .addressed .ok [] u) ∧
        (s.straps.role ≠ .slave → exec (.runStart .addressed) s = answered .addressed .ok [] (enterSourcing u)))

/-- R101, R103, R119: RUN_HOLD and RUN_RESUME by run state, addressed and broadcast alike; a SLAVE refuses both. -/
def Obligations.HoldAndResumeActByRunState : Prop :=
  ∀ (how : Addressing) (s : State), CanTake s →
    (s.straps.role = .slave →
      exec (.runHold how) s = answered how .wrongState [] s ∧ exec (.runResume how) s = answered how .wrongState [] s) ∧
    (s.straps.role ≠ .slave →
      (s.run.state = .idle ∨ s.run.state = .following → exec (.runHold how) s = answered how .wrongState [] s) ∧
      (∀ stage, s.run.state = .sourcing stage → exec (.runHold how) s = answered how .ok [] { s with
        run := { s.run with state := .held, measured := false, latency := none, source := none } }) ∧
      (s.run.state = .settling → exec (.runHold how) s = answered how .ok [] { s with
        run := { s.run with state := .held, measured := false, settle := none } }) ∧
      (s.run.state = .measuring → exec (.runHold how) s = answered how .ok [] { s with run := { s.run with hold := true } }) ∧
      (s.run.state = .held → exec (.runHold how) s = answered how .ok [] s) ∧
      (s.run.state ≠ .held → exec (.runResume how) s = answered how .wrongState [] s) ∧
      (s.run.state = .held → s.run.measured = true → exec (.runResume how) s =
        answered how .ok [] (enterSourcing { s with run := { s.run with index := s.run.index + 1, measured := false } })) ∧
      (s.run.state = .held → s.run.measured = false → exec (.runResume how) s = answered how .ok [] (enterSourcing s)))

/-- R83, R104, R119: RUN_ABORT of an IDLE run changes nothing; of any other it returns the members to READY, stops every timer of the
run and the engine, puts the lines at rest and raises RUN_END ABORTED. That a running 3 ms interval of low PHASE is no timer of the run,
and runs on, is the model's (log 25). -/
def Obligations.AbortReturnsTheMembersToReady : Prop :=
  ∀ s : State,
    (∀ how, CanTake s → s.run.state = .idle → exec (.runAbort how) s = answered how .ok [] s) ∧
    (∀ how, CanTake s → s.run.state ≠ .idle → exec (.runAbort how) s = answered how .ok [] (abortRun s)) ∧
    OnlyChanges [.table, .engine, .run, .attn] s (abortRun s) ∧ (abortRun s).table.index = s.table.index ∧
    (∀ p, getRec (abortRun s) p = if s.run.members.has p then { getRec s p with state := .ready, context := none } else getRec s p) ∧
    (abortRun s).engine = ⟨none, none⟩ ∧
    (abortRun s).run = { s.run with
      state := .idle, measured := false, members := 0, done := 0, hold := false, ending := .aborted, latency := none
      source := none, settle := none, guard := none, holdOff := none
      phaseLow := if s.run.phaseHigh then some ⟨3, 3⟩ else s.run.phaseLow, phaseHigh := false, doneLow := false
      load := s.settings.restCode } ∧
    (∃ atn, (abortRun s).attn = { s.attn with runEnd := some .aborted, atn := atn }) ∧ AtnLaw (abortRun s)

/-- R89, R93, R94, R95, R97, R105, R119: the load code, the latency, the wait for SRC_READY and the settle time, with the aborts for a
source that does not come or fails under load; a SLAVE only confirms the level. That a change of SRC_READY before its first reading acts
is the model's choice (log 30). That an abort's FAULT is raised before its RUN_END is deduced (log 27). -/
def Obligations.TheSourceHandshakeLeadsToMeasuring : Prop :=
  ∀ s : State,
    (∀ point, s.plan[s.run.index]? = some point →
      let presented := { s with run := { s.run with
        state := .sourcing .latency, load := point.load
        source := some ⟨s.settings.srcTimeout * 1000, s.settings.srcTimeout * 1000⟩ } }
      let settling := { s with run := { s.run with state := .settling, latency := none, source := none } }
      (s.settings.srcLatency ≠ 0 → enterSourcing s = { presented with
        run := { presented.run with latency := some ⟨s.settings.srcLatency, s.settings.srcLatency⟩ } }) ∧
      (s.settings.srcLatency = 0 → enterSourcing s = if s.run.srcReady.level then enterSettling presented
        else { presented with run := { presented.run with state := .sourcing .awaitReady, latency := none } }) ∧
      (point.settle ≠ 0 → enterSettling s = { settling with
        run := { settling.run with settle := some ⟨point.settle, point.settle⟩ } }) ∧
      (point.settle = 0 → enterSettling s = settleOver settling)) ∧
    settleOver s = (if s.straps.role = .master ∧ s.run.phaseLow ≠ none then { s with run := { s.run with settle := none } }
      else enterMeasuring { s with run := { s.run with settle := none } }) ∧
    (Due s.run.latency → s.run.state = .sourcing .latency →
      exec .latencyTimerExpiry s = .next (if s.run.srcReady.level then enterSettling s
        else { s with run := { s.run with state := .sourcing .awaitReady, latency := none } })) ∧
    (Due s.run.settle → s.run.state = .settling → exec .settleTimerExpiry s = .next (settleOver s)) ∧
    (∀ stage, Due s.run.source → s.run.state = .sourcing stage →
      exec .sourceTimerExpiry s = .next (abortRun (raiseFault 0x01 0 s))) ∧
    (s.run.srcReady.seeded = false ∨ s.run.srcReady.level = false →
      let up := { s with run := { s.run with srcReady := ⟨true, false, true⟩ } }
      (s.straps.role ≠ .slave → s.run.state = .sourcing .awaitReady → exec .srcReadyRise s = .next (enterSettling up)) ∧
      (s.straps.role = .slave ∨ s.run.state ≠ .sourcing .awaitReady → exec .srcReadyRise s = .next up)) ∧
    (s.run.srcReady.seeded = false ∨ s.run.srcReady.level = true →
      let down := { s with run := { s.run with srcReady := ⟨false, false, true⟩ } }
      (s.straps.role ≠ .slave → s.run.state = .settling → exec .srcReadyFall s = .next { down with run := { down.run with
        state := .sourcing .awaitReady, settle := none
        source := some ⟨s.settings.srcTimeout * 1000, s.settings.srcTimeout * 1000⟩ } }) ∧
      (s.straps.role ≠ .slave → s.run.state = .measuring →
        exec .srcReadyFall s = .next (abortRun (raiseFault 0x02 0 down))) ∧
      (s.straps.role = .slave ∨ s.run.state ≠ .settling ∧ s.run.state ≠ .measuring → exec .srcReadyFall s = .next down))

/-- R61, R97, R113, R116: entering MEASURING starts every member's context afresh, the point timer, and on a MASTER PHASE, the guard
and the hold-off; a SLAVE drives DONE low. -/
def Obligations.EnteringMeasuringStartsThePoint : Prop :=
  ∀ (s : State) (point : Point), s.plan[s.run.index]? = some point →
    ∀ length : Nat, (∀ n reps timeout limits, point.body = .error n reps timeout limits → length = timeout * 1000) →
      (∀ window required, point.body = .start window required → length = window * 1000) →
      (∀ window allowed, point.body = .creep window allowed → length = window * 1000) →
      let t := enterMeasuring s
      OnlyChanges [.table, .engine, .run] s t ∧ t.table.index = s.table.index ∧
        (∀ p, getRec t p = if (getRec s p).state = .active then
          { getRec s p with context := some ⟨.awaitEdge, 0, 0, 0, none, 0, 0, false⟩ } else getRec s p) ∧
        t.engine = ⟨some s.run.index, some ⟨length, length⟩⟩ ∧
        (s.straps.role = .solo → t.run = { s.run with state := .measuring, measured := true, settle := none, done := 0 }) ∧
        (s.straps.role = .master → t.run = { s.run with
          state := .measuring, measured := true, settle := none, done := 0, phaseHigh := true
          guard := some ⟨length + 1000, length + 1000⟩, holdOff := some ⟨10, 10⟩ }) ∧
        (s.straps.role = .slave → t.run = { s.run with
          state := .measuring, measured := true, settle := none, done := 0, doneLow := true })

/-- R97 to R100, R108, R114, R117: what follows a change of the members or of those done: a SLAVE drives DONE; the others end the point
when every member is done, a MASTER also needing the hold-off over and DONE high. The end of a point raises POINT_END with the members
short of PASS, and leads to the verdicts, to HELD or to the next point. That the point measured flag stays as it is when the run completes
is the model's (log 16). That POINT_END is raised before RUN_END is deduced (log 27). -/
def Obligations.APointEndsWhenEveryMemberIsDone : Prop :=
  ∀ s : State,
    let ends := s.run.state = .measuring ∧ s.run.done = s.run.members ∧
      (s.straps.role = .master → s.run.holdOff = none ∧ s.run.doneLine.level = true)
    (s.straps.role = .slave → membersChanged s = { s with run := { s.run with
      doneLow := decide (s.run.state = .measuring ∧ s.run.done ≠ s.run.members) } }) ∧
    (s.straps.role ≠ .slave → ¬ends → membersChanged s = s) ∧
    (s.straps.role ≠ .slave → ends → membersChanged s = endPoint { s with
      engine := ⟨none, none⟩, run := { s.run with done := 0, doneLow := false } }) ∧
    (∃ short, (∀ p, PosSet.has short p = true ↔ s.run.members.has p = true ∧
        ∀ e, (getRec s p).results[s.run.index]? = some e → e.outcome ≠ .pass) ∧
      let ended := raisePointEnd s.run.index short { s with run := { s.run with
        guard := none, holdOff := none, phaseLow := if s.run.phaseHigh then some ⟨3, 3⟩ else s.run.phaseLow, phaseHigh := false } }
      (s.plan.length ≤ s.run.index + 1 → endPoint s = completeRun ended) ∧
      ∀ point, s.plan[s.run.index]? = some point → s.run.index + 1 < s.plan.length →
        (point.pauseAfter = true ∨ s.run.hold = true →
          endPoint s = { ended with run := { ended.run with state := .held, hold := false } }) ∧
        (point.pauseAfter = false → s.run.hold = false →
          endPoint s = enterSourcing { ended with run := { ended.run with index := s.run.index + 1, measured := false } })) ∧
    ∃ u, completeRun s = raiseRunEnd .complete u ∧ OnlyChanges [.table, .run] s u ∧ u.table.index = s.table.index ∧
      (∀ p, getRec u p = (if s.run.members.has p then { getRec s p with
          state := if ∀ e ∈ (getRec s p).results, e.outcome = .pass then .passed else .failed, context := none }
        else getRec s p)) ∧
      u.run = { s.run with state := .idle, members := 0, load := s.settings.restCode, hold := false, ending := .complete }

/-- R112, R113, R114: a MASTER's 3 ms of low PHASE, its hold-off, its guard and its DONE line; on the other roles DONE changes only its
level, on a SOLO part only its reading (log 14). That a change of DONE before its first reading acts is the model's choice (log 30). -/
def Obligations.TheMasterWaitsOnDoneUnderAGuard : Prop :=
  ∀ s : State,
    (Due s.run.phaseLow →
      let after := { s with run := { s.run with phaseLow := none } }
      (s.straps.role = .master → s.run.state = .settling → s.run.settle = none →
        exec .phaseLowIntervalEnd s = .next (enterMeasuring after)) ∧
      (s.straps.role ≠ .master ∨ s.run.state ≠ .settling ∨ s.run.settle ≠ none → exec .phaseLowIntervalEnd s = .next after)) ∧
    (Due s.run.holdOff → s.run.state = .measuring →
      exec .cascadeHoldOffExpiry s = .next (membersChanged { s with run := { s.run with holdOff := none } })) ∧
    (Due s.run.guard → s.run.state = .measuring →
      exec .guardTimerExpiry s = .next (endPoint (raiseFault 0x08 0 (cutMeasurement s)))) ∧
    (let up := { s with run := { s.run with doneLine := ⟨true, false, true⟩, doneReading := true } };
      (s.straps.role = .solo → exec .doneRise s = .next { s with run := { s.run with doneReading := true } }) ∧
      (s.run.doneLine.seeded = false ∨ s.run.doneLine.level = false →
        (s.straps.role = .master → exec .doneRise s = .next (membersChanged up)) ∧
        (s.straps.role = .slave → exec .doneRise s = .next up))) ∧
    (s.straps.role = .solo → exec .doneFall s = .next { s with run := { s.run with doneReading := false } }) ∧
    (s.straps.role ≠ .solo → s.run.doneLine.seeded = false ∨ s.run.doneLine.level = true →
      exec .doneFall s = .next { s with run := { s.run with doneLine := ⟨false, false, true⟩, doneReading := false } })

/-- R83, R116, R118: a SLAVE measures from a rise of PHASE in FOLLOWING to its fall, which cuts the members not done; on the other roles
PHASE changes only its level, on a SOLO part only its reading (log 14). That a change of PHASE before its first reading acts is the
model's choice (log 30). -/
def Obligations.TheSlaveMeasuresWhilePhaseIsHigh : Prop :=
  ∀ s : State,
    (∀ point, s.plan[s.run.index]? = some point →
      let t := cutMeasurement s
      OnlyChanges [.table, .engine, .run] s t ∧ t.table.index = s.table.index ∧ t.engine = ⟨none, none⟩ ∧
        t.run = { s.run with done := 0, doneLow := false } ∧
        ∀ p, (∀ c, (getRec s p).state = .active → (getRec s p).context = some c → c.phase ≠ .done →
            getRec t p = { getRec s p with
              results := (getRec s p).results.set s.run.index (match point.body with
                | .error .. => errorResult .cut c
                | .start .. => ⟨.cut, .start, 0, some c.pulses, none, false⟩
                | .creep .. => ⟨.cut, .creep, 0, some c.pulses, none, false⟩)
              context := some { c with phase := .done } }) ∧
          ((getRec s p).state ≠ .active ∨ (getRec s p).context = none ∨ (∃ c, (getRec s p).context = some c ∧ c.phase = .done) →
            getRec t p = getRec s p)) ∧
    (let up := { s with run := { s.run with phaseLine := ⟨true, false, true⟩, phaseReading := true } };
      (s.straps.role = .solo → exec .phaseRise s = .next { s with run := { s.run with phaseReading := true } }) ∧
      (s.run.phaseLine.seeded = false ∨ s.run.phaseLine.level = false →
        (s.straps.role = .slave → s.run.state = .following → exec .phaseRise s = .next (enterMeasuring up)) ∧
        (s.straps.role = .master ∨ s.straps.role = .slave ∧ s.run.state ≠ .following → exec .phaseRise s = .next up))) ∧
    (let down := { s with run := { s.run with phaseLine := ⟨false, false, true⟩, phaseReading := false } };
      (s.straps.role = .solo → exec .phaseFall s = .next { s with run := { s.run with phaseReading := false } }) ∧
      (s.run.phaseLine.seeded = false ∨ s.run.phaseLine.level = true →
        (s.straps.role = .master ∨ s.straps.role = .slave ∧ s.run.state ≠ .measuring → exec .phaseFall s = .next down) ∧
        (s.straps.role = .slave → s.run.state = .measuring →
          let cut := cutMeasurement down
          ∃ short, (∀ p, PosSet.has short p = true ↔ s.run.members.has p = true ∧
              ∀ e, (getRec cut p).results[s.run.index]? = some e → e.outcome ≠ .pass) ∧
            (s.plan.length ≤ s.run.index + 1 →
              exec .phaseFall s = .next (completeRun (raisePointEnd s.run.index short cut))) ∧
            (s.run.index + 1 < s.plan.length →
              let u := raisePointEnd s.run.index short cut
              exec .phaseFall s = .next { u with
                run := { u.run with state := .following, index := s.run.index + 1, measured := false } }))))

/-! ## Tag stock and closure queue -/

/-- R123, R125, R126: ROLL_LOAD is checked in its order; accepted, the slot is LOADED with next at first, and the answer carries it. -/
def Obligations.RollLoadRefusesNumbersInUse : Prop :=
  ∀ (b : Byte) (first last : BitVec 32) (s : State), CanTake s → (∀ i, slotOk (s.stock.get i)) →
    let bad := first = 0 ∨ 999999999 < last.toNat ∨ last.toNat < first.toNat
    let inUse := ∃ n, first.toNat ≤ n ∧ n ≤ last.toNat ∧ ((∃ j, undrawnIn n (s.stock.get j)) ∨ isHeld s n)
    (3 < b.toNat ∨ bad → exec (.rollLoad .addressed b first last) s = answered .addressed .outOfRange [] s) ∧
    ∀ i : Fin 4, b.toNat = i.val → ¬bad →
      ((∃ f l n, s.stock.get i = .loaded f l n) →
        exec (.rollLoad .addressed b first last) s = answered .addressed .busy [] s) ∧
      ((¬∃ f l n, s.stock.get i = .loaded f l n) →
        (inUse → exec (.rollLoad .addressed b first last) s = answered .addressed .overlap [] s) ∧
        (¬inUse → exec (.rollLoad .addressed b first last) s =
          answered .addressed .ok ([b, 1] ++ be 4 first.toNat ++ be 4 last.toNat ++ be 4 first.toNat)
            { s with stock := s.stock.set i (.loaded first.toNat last.toNat first.toNat) }))

/-- R127. -/
def Obligations.RollDropKeepsEnoughForTheQueue : Prop :=
  ∀ (b : Byte) (s : State), CanTake s →
    (3 < b.toNat → exec (.rollDrop .addressed b) s = answered .addressed .outOfRange [] s) ∧
    ∀ i : Fin 4, b.toNat = i.val →
      let dropped := { s with stock := s.stock.set i .empty }
      (s.stock.get i = .empty → exec (.rollDrop .addressed b) s = answered .addressed .wrongState [] s) ∧
      (∀ f l, s.stock.get i = .exhausted f l →
        exec (.rollDrop .addressed b) s = answered .addressed .ok [] dropped ∧ remaining dropped.stock = remaining s.stock) ∧
      ∀ f l n, s.stock.get i = .loaded f l n →
        let left := remaining s.stock - (l + 1 - n)
        (left < reservations s.closure → exec (.rollDrop .addressed b) s = answered .addressed .noStock [] s) ∧
        (reservations s.closure ≤ left →
          remaining dropped.stock = left ∧
          exec (.rollDrop .addressed b) s = answered .addressed .ok []
            (if s.settings.stockLow < remaining s.stock ∧ left ≤ s.settings.stockLow then raiseStockLow left dropped
              else dropped))

/-- R109, R132, R138, R160, R202: RUN_STATUS, STOCK_READ, QUEUE_READ and CLOSURE_STATUS answer what the part holds and change nothing.
That a SOLO part reports the readings of PHASE and DONE, and the others the confirmed levels, is deduced (log 14). -/
def Obligations.StatusReportsShowTheirBlocks : Prop :=
  ∀ s : State, CanTake s →
    (let r := s.run;
      exec (.runStatus .addressed) s = answered .addressed .ok
        ([match s.straps.role with | .solo => 0 | .master => 1 | .slave => 2,
          (match r.state with | .idle => 0 | .sourcing _ => 1 | .settling => 2 | .measuring => 3 | .held => 4 | .following => 5),
          if r.state = .sourcing .awaitReady then 1 else 0, byte r.index, byte s.plan.length,
          byte ((if r.measured then 1 else 0) + (if r.hold then 2 else 0) + (if r.srcReady.level then 4 else 0) +
            (if s.front.present then 8 else 0) +
            (if (if s.straps.role = .solo then r.phaseReading else r.phaseLine.level) then 16 else 0) +
            if (if s.straps.role = .solo then r.doneReading else r.doneLine.level) then 32 else 0),
          match r.ending with | .none => 0 | .complete => 1 | .aborted => 2 | .emptied => 3] ++
          be 6 r.members.toNat ++ be 6 r.done.toNat ++ be 2 r.load.toNat) s) ∧
    (let report := fun i : Fin 4 =>
        match s.stock.get i with
        | .empty => [0, 0, 0, 0, 0, 0, 0, 0, 0]
        | .loaded _ last next => 1 :: (be 4 next ++ be 4 last)
        | .exhausted _ last => 2 :: (be 4 (last + 1) ++ be 4 last);
      exec (.stockRead .addressed) s = answered .addressed .ok
        (report 0 ++ report 1 ++ report 2 ++ report 3 ++ be 4 (remaining s.stock) ++ [byte (reservations s.closure)]) s) ∧
    (∀ start : Byte,
      (47 < start.toNat → exec (.queueRead .addressed start) s = answered .addressed .outOfRange [] s) ∧
      (start.toNat ≤ 47 → exec (.queueRead .addressed start) s = answered .addressed .ok
        ([byte s.closure.queue.length,
          match s.closure.unit with | .moving _ => 1 | .pressing _ => 2 | _ => 0] ++
          be 4 (s.closure.tagInPress.getD 0) ++ [byte (min 32 (s.closure.queue.length - start.toNat))] ++
          ((s.closure.queue.drop start.toNat).take 32).map fun p => byte p.val) s)) ∧
    let c := s.closure
    exec (.closureStatus .addressed) s = answered .addressed .ok
      ([(match c.unit with
          | .unhomed => (0 : Byte) | .homing => 1 | .idle => 2 | .moving _ => 3 | .pressing _ => 4 | .fault => 5),
        match c.unit with | .moving ⟨.dwell, _, _, _, _, _, _⟩ => 1 | _ => 0] ++ be 2 c.stepCount ++
        be 2 (match c.unit with | .moving m => m.target | .pressing target => target | _ => 0) ++
        be 2 (match c.unit with | .moving m => m.length | _ => 0) ++ be 2 (match c.unit with | .moving m => m.taken | _ => 0) ++
        be 4 c.tally ++
        [if s.settings.excitation = .half then 1 else 0, byte c.exIndex,
          byte ((if c.energised then 1 else 0) + (if c.press then 2 else 0) + (if c.home.level then 4 else 0) +
            if c.pressDone.level then 8 else 0),
          (match c.lastFault with | .none => 0 | .homeTimeout => 1 | .pressStuck _ => 2 | .pressTimeout _ => 3),
          (match c.lastFault with | .pressStuck p => byte p.val | .pressTimeout p => byte p.val | _ => 0xFF),
          byte c.queue.length]) s

/-- R43, R134, R147, R150: CLOSE is checked in its order; accepted, the record is CLOSING, the position stands at the tail, and an IDLE
unit begins to serve, unless by the model's choice the entry's CLOSE_CANCEL comes together with it (R139; log 29); that it begins before a
CARRIAGE_HOME that comes together with it is the model's choice too (R148; log 31). -/
def Obligations.CloseAppendsToTheQueue : Prop :=
  ∀ (b : Byte) (s : State), CanTake s →
    (48 ≤ b.toNat → exec (.close .addressed b) s = answered .addressed .outOfRange [] s) ∧
    ∀ p : Pos, b.toNat = p.val →
      let r := getRec s p
      let place := s.settings.homeOffset + (if s.settings.orient = .normal then p.val else 47 - p.val) * s.settings.pitch
      (r.state = .closing → exec (.close .addressed b) s = answered .addressed .duplicate [] s) ∧
      (r.state = .passed → r.spoiled ≠ none → exec (.close .addressed b) s = answered .addressed .unreported [] s) ∧
      (r.state ≠ .closing → r.state ≠ .passed → exec (.close .addressed b) s = answered .addressed .wrongState [] s) ∧
      (r.state = .passed → r.spoiled = none →
        (s.settings.travel < place → exec (.close .addressed b) s = answered .addressed .outOfReach [] s) ∧
        (place ≤ s.settings.travel → remaining s.stock ≤ reservations s.closure →
          exec (.close .addressed b) s = answered .addressed .noStock [] s) ∧
        (place ≤ s.settings.travel → reservations s.closure < remaining s.stock →
          exec (.close .addressed b) s = answered .addressed .ok [] (serve { putRec s p { r with state := .closing } with
            closure := { s.closure with queue := s.closure.queue ++ [p] } })))

/-- R133, R136, R139, R150, R154: CLOSE_CANCEL is refused for a position above 47, the entry being served, and a position not queued; any
other entry leaves the queue, its record is PASSED with its list and no tag, and the reservations fall by 1; broadcast, it is ignored. A
CLOSE_CANCEL of the second entry and the press completion of the head, both waiting, both take effect in either order, and so do a CLOSE
and the CLOSE_CANCEL of the only entry that it makes; a CLOSE_CANCEL that does not wait with the completion finds the entry served, and is
BUSY. That two events come together when the cancel waits next, and that it is then taken first, is the model's choice (log 29). -/
def Obligations.CloseCancelTakesAnEntryOutOfTheQueue : Prop :=
  ∀ (b : Byte) (s : State), CanTake s →
    (48 ≤ b.toNat → exec (.closeCancel .addressed b) s = answered .addressed .outOfRange [] s) ∧
    exec (.closeCancel .broadcast b) s = answered .broadcast .ok [] s ∧
    ∀ p : Pos, b.toNat = p.val →
      let served := s.closure.queue.head? = some p ∧ ((∃ m, s.closure.unit = .moving m) ∨ ∃ target, s.closure.unit = .pressing target)
      (served → exec (.closeCancel .addressed b) s = answered .addressed .busy [] s) ∧
      (∀ (head : Pos) rest target tag, s.closure.queue = head :: p :: rest → head ≠ p → s.closure.unit = .pressing target →
        s.closure.tagInPress = some tag → s.closure.pressDone.seeded = false ∨ s.closure.pressDone.level = false →
        (∀ more, ∃ t v u, step { s with pending := .pressDoneRise :: .closeCancel .addressed b :: more } = .next t ∧ step t = .next u ∧
          step { s with pending := .closeCancel .addressed b :: .pressDoneRise :: more } = .next v ∧ step v = .next u ∧
          (getRec u head).state = .closed ∧ (getRec u p).state = .passed ∧ u.closure.queue = rest ∧
          u.link.response = some ⟨.ok, []⟩) ∧
        (pressLocation s.settings p ≠ s.closure.stepCount → s.pending.head? ≠ some (.closeCancel .addressed b) →
          ∃ t m, exec .pressDoneRise s = .next t ∧ t.closure.unit = .moving m ∧ t.closure.queue = p :: rest ∧
            exec (.closeCancel .addressed b) t = answered .addressed .busy [] t)) ∧
      (∀ more t, s.closure.unit = .idle → s.closure.queue = [] →
        exec (.close .addressed b) { s with pending := .closeCancel .addressed b :: more } = .next t → t.link.response = some ⟨.ok, []⟩ →
        t.closure.unit = .idle ∧ t.closure.queue = [p] ∧
          ∃ u, step t = .next u ∧ u.closure = s.closure ∧ (getRec u p).state = .passed ∧ u.link.response = some ⟨.ok, []⟩) ∧
      (¬served → p ∉ s.closure.queue → exec (.closeCancel .addressed b) s = answered .addressed .wrongState [] s) ∧
      (¬served → p ∈ s.closure.queue →
        ∃ t, exec (.closeCancel .addressed b) s = answered .addressed .ok [] (serve t) ∧
          t = { putRec s p { getRec s p with state := .passed } with
            closure := { s.closure with queue := s.closure.queue.erase p } } ∧
          reservations t.closure = reservations s.closure - 1 ∧
          (RecordLaw (getRec s p) → (getRec s p).state = .closing →
            (getRec t p).closure = none ∧ (getRec t p).spoiled = none))

/-! ## Carriage and press -/

/-- R143, R145, R146, R150, R151: an IDLE unit with entries begins the move to the head's press location, and is IDLE no more, unless the
CLOSE_CANCEL of the head comes together with this beginning and is taken first, by the model's choice (R139; log 29); each step takes the
place, the pattern and the period the rules give, and the last one ends in the dwell. PH0..PH3, PH0 in the lowest bit, carry the pattern
at the excitation index while energised, and are all off otherwise. -/
def Obligations.TheCarriageStepsToTheHeadEntry : Prop :=
  ∀ s : State,
    let period := fun m : Move => if m.taken + 1 ≤ m.startRamp ∨ m.length < m.taken + 1 + m.stopRamp then s.settings.stepStart
      else s.settings.stepRun
    let size := if s.settings.excitation = .full then 4 else 8
    (s.closure.unit ≠ .idle ∨ s.closure.queue = [] ∨ CancelTogether s → serve s = s) ∧
    (∀ p rest, s.closure.unit = .idle → s.closure.queue = p :: rest → ¬CancelTogether s →
      let target := s.settings.homeOffset + (if s.settings.orient = .normal then p.val else 47 - p.val) * s.settings.pitch
      let length := if s.closure.stepCount < target then target - s.closure.stepCount else s.closure.stepCount - target
      let move : Move := ⟨.stepping, target, length, 0, decide (s.closure.stepCount < target),
        min s.settings.rampSteps ((length + 1) / 2), min s.settings.rampSteps (length / 2)⟩
      (length = 0 → serve s = arrive move s) ∧ (length ≠ 0 → serve s = takeStep move s) ∧ (serve s).closure.unit ≠ .idle) ∧
    (∀ m : Move, takeStep m s = { s with closure := { s.closure with
      unit := .moving { m with taken := m.taken + 1 }
      stepCount := if m.forward then s.closure.stepCount + 1 else s.closure.stepCount - 1
      exIndex := if m.forward then (s.closure.exIndex + 1) % size else (s.closure.exIndex + size - 1) % size
      stepTimer := some ⟨period m, period m⟩ } }) ∧
    (∀ m : Move,
      let still := { s with closure := { s.closure with unit := .moving { m with stage := .dwell }, stepTimer := none } }
      (s.settings.pressDwell ≠ 0 → arrive m s = { still with closure := { still.closure with
        dwellTimer := some ⟨s.settings.pressDwell, s.settings.pressDwell⟩ } }) ∧
      (s.settings.pressDwell = 0 → arrive m s = dwellOver m.target still)) ∧
    (∀ m : Move, Due s.closure.stepTimer → s.closure.unit = .moving m → m.stage = .stepping →
      (m.taken < m.length → exec .stepTimerExpiry s = .next (takeStep m s)) ∧
      (m.length ≤ m.taken → exec .stepTimerExpiry s = .next (arrive m s))) ∧
    (s.closure.energised = false → phaseLines s = 0b0000) ∧
    (s.closure.energised = true → s.settings.excitation = .full →
      (s.closure.exIndex = 0 → phaseLines s = 0b0011) ∧ (s.closure.exIndex = 1 → phaseLines s = 0b0110) ∧
      (s.closure.exIndex = 2 → phaseLines s = 0b1100) ∧ (s.closure.exIndex = 3 → phaseLines s = 0b1001)) ∧
    (s.closure.energised = true → s.settings.excitation = .half →
      (s.closure.exIndex = 0 → phaseLines s = 0b0001) ∧ (s.closure.exIndex = 1 → phaseLines s = 0b0011) ∧
      (s.closure.exIndex = 2 → phaseLines s = 0b0010) ∧ (s.closure.exIndex = 3 → phaseLines s = 0b0110) ∧
      (s.closure.exIndex = 4 → phaseLines s = 0b0100) ∧ (s.closure.exIndex = 5 → phaseLines s = 0b1100) ∧
      (s.closure.exIndex = 6 → phaseLines s = 0b1000) ∧ (s.closure.exIndex = 7 → phaseLines s = 0b1001))

/-- R144, R148, R149, R157: CARRIAGE_HOME and CLOSURE_CLEAR by unit state, the backward steps of homing, its limit, and its end at HOME
with service resumed, unless by the model's choice the head's CLOSE_CANCEL comes together with it (R139; log 29). That a change of HOME
before its first reading acts is the model's choice (log 30). -/
def Obligations.HomingFindsTheZero : Prop :=
  ∀ s : State,
    let size := if s.settings.excitation = .full then 4 else 8
    let entered := { s with closure := { s.closure with unit := .homing, energised := true, tally := 0 } }
    let back := fun t : State => { t with closure := { t.closure with
      tally := t.closure.tally + 1, exIndex := (t.closure.exIndex + size - 1) % size
      stepTimer := some ⟨s.settings.stepStart, s.settings.stepStart⟩ } }
    let atZero := fun t : State => serve { t with closure := { t.closure with unit := .idle, stepCount := 0, stepTimer := none } }
    let homing := if s.closure.home.level then atZero entered else back entered
    (CanTake s →
      (s.closure.unit = .unhomed ∨ s.closure.unit = .idle →
        exec (.carriageHome .addressed) s = answered .addressed .ok [] homing) ∧
      (UnitBusy s.closure.unit → exec (.carriageHome .addressed) s = answered .addressed .busy [] s) ∧
      (s.closure.unit = .fault → exec (.carriageHome .addressed) s = answered .addressed .wrongState [] s ∧
        exec (.closureClear .addressed) s = answered .addressed .ok [] homing) ∧
      (s.closure.unit ≠ .fault → exec (.closureClear .addressed) s = answered .addressed .wrongState [] s)) ∧
    (s.closure.unit = .homing → Due s.closure.stepTimer →
      (s.closure.tally < s.settings.travel + 2 * s.settings.pitch → exec .stepTimerExpiry s = .next (back s)) ∧
      (s.settings.travel + 2 * s.settings.pitch ≤ s.closure.tally →
        exec .stepTimerExpiry s = .next (raiseFault 0x40 0 { s with closure := { s.closure with
          unit := .fault, energised := false, press := false, stepTimer := none, dwellTimer := none, pressTimer := none
          lastFault := .homeTimeout } }))) ∧
    (s.closure.home.seeded = false ∨ s.closure.home.level = false →
      let up := { s with closure := { s.closure with home := ⟨true, false, true⟩ } }
      (s.closure.unit = .homing → exec .homeRise s = .next (atZero up)) ∧
      (s.closure.unit ≠ .homing → exec .homeRise s = .next up)) ∧
    (s.closure.home.seeded = false ∨ s.closure.home.level = true →
      exec .homeFall s = .next { s with closure := { s.closure with home := ⟨false, false, true⟩ } })

/-- R128, R131, R144, R150, R152 to R155: the look at PRESS_DONE after the dwell, the draw of a tag as the press is fired, the completed
cycle with the service of the next entry, unless by the model's choice its CLOSE_CANCEL comes together with it (R139; log 29), and the
lost stroke. That a change of PRESS_DONE before its first reading acts is the model's choice (log 30). -/
def Obligations.ThePressCycleDrawsAndPlacesATag : Prop :=
  ∀ s : State,
    (∀ (p : Pos) (rest : List Pos), s.closure.queue = p :: rest →
      let faulted := fun (f : LastFault) (c : Closure) => { c with
        unit := .fault, energised := false, press := false, stepTimer := none, dwellTimer := none, pressTimer := none, lastFault := f }
      (∀ m : Move, s.closure.unit = .moving m → m.stage = .dwell → Due s.closure.dwellTimer →
        exec .dwellTimerExpiry s = .next (dwellOver m.target { s with closure := { s.closure with dwellTimer := none } })) ∧
      (∀ target,
        (s.closure.pressDone.level = true → dwellOver target s =
          raiseFault 0x20 (PosSet.single p) { s with closure := faulted (.pressStuck p) s.closure }) ∧
        ∀ (i : Fin 4) f l n, s.closure.pressDone.level = false → s.stock.get i = .loaded f l n → slotOk (s.stock.get i) →
          (∀ j, j < i → ¬∃ f' l' n', s.stock.get j = .loaded f' l' n') →
          let fired := { s with
            stock := s.stock.set i (if n = l then .exhausted f l else .loaded f l (n + 1))
            closure := { s.closure with
              unit := .pressing target, tagInPress := some n, press := true, dwellTimer := none
              pressTimer := some ⟨s.settings.pressTimeout, s.settings.pressTimeout⟩ } }
          remaining fired.stock + 1 = remaining s.stock ∧
          dwellOver target s = (if s.settings.stockLow < remaining s.stock ∧ remaining fired.stock ≤ s.settings.stockLow then
            raiseStockLow (remaining fired.stock) fired else fired)) ∧
      ∀ target tag, s.closure.unit = .pressing target → s.closure.tagInPress = some tag →
        (s.closure.pressDone.seeded = false ∨ s.closure.pressDone.level = false →
          exec .pressDoneRise s = .next (serve (raiseClosed (PosSet.single p)
            { putRec s p { getRec s p with state := .closed, closure := some ⟨tag, false⟩ } with
              closure := { s.closure with
                pressDone := ⟨true, false, true⟩, queue := rest, tagInPress := none, unit := .idle, press := false
                pressTimer := none } }))) ∧
        (Due s.closure.pressTimer →
          exec .pressTimerExpiry s = .next (raiseFault 0x10 (PosSet.single p)
            { putRec s p { getRec s p with state := .passed, spoiled := some tag } with
              closure := { faulted (.pressTimeout p) s.closure with queue := rest, tagInPress := none } }))) ∧
    ((∀ target, s.closure.unit ≠ .pressing target) → s.closure.pressDone.seeded = false ∨ s.closure.pressDone.level = false →
      exec .pressDoneRise s = .next { s with closure := { s.closure with pressDone := ⟨true, false, true⟩ } }) ∧
    (s.closure.pressDone.seeded = false ∨ s.closure.pressDone.level = true →
      exec .pressDoneFall s = .next { s with closure := { s.closure with pressDone := ⟨false, false, true⟩ } })

/-! ## Measurement -/

/-- R69, R70, R71, with R67, R72, R73 and R74: the repetition error is D × 1,000,000 over 65,536 × R to the nearest whole ppm, halves
away from zero, bounded at 999,999 with the flag set; the mean is rounded the same way; a saturated result fails; a result without
repetitions has neither mean nor spread, and with one repetition it has no spread. -/
def Obligations.ErrorsAreExactRoundedAndBounded : Prop :=
  (∀ n mr r : Nat, 1 ≤ r →
    let d : Int := (n * mr : Nat) - (65536 * r : Nat)
    let magnitude := d.natAbs * 1000000
    let denominator := 65536 * r
    (saturates n mr r = true ↔ 999999 * denominator < magnitude) ∧
    (saturates n mr r = true → repetitionError n mr r = if 0 < d then 999999 else -999999) ∧
    (saturates n mr r = false → ∀ q rem : Nat, magnitude = q * denominator + rem → rem < denominator →
      repetitionError n mr r = (if d < 0 then -1 else 1) * (if denominator ≤ 2 * rem then q + 1 else q : Nat)) ∧
    -999999 ≤ repetitionError n mr r ∧ repetitionError n mr r ≤ 999999) ∧
  (∀ c : Context, 1 ≤ c.repetitions → ∀ q rem : Nat, c.sum.natAbs = q * c.repetitions + rem → rem < c.repetitions →
    meanOf c = (if c.sum < 0 then -1 else 1) * (if c.repetitions ≤ 2 * rem then q + 1 else q : Nat)) ∧
  (∀ (c : Context) (e : Int) (sat : Bool),
    accumulate c e sat = { c with
      sum := c.sum + e, repetitions := c.repetitions + 1, saturated := c.saturated || sat
      range := some (match c.range with | none => (e, e) | some (lo, hi) => (min lo e, max hi e)) }) ∧
  (∀ c : Context, ∀ limit spreadLimit : Nat, c.saturated = true → judge limit spreadLimit c = .fail) ∧
  (∀ (c : Context) (lo hi : Int) (limit spreadLimit : Nat), c.saturated = false → c.range = some (lo, hi) → lo ≤ hi →
    (judge limit spreadLimit c = .pass ↔ -(limit : Int) ≤ meanOf c ∧ meanOf c ≤ limit ∧ hi - lo ≤ spreadLimit) ∧
    (judge limit spreadLimit c = .pass ∨ judge limit spreadLimit c = .fail)) ∧
  (∀ (outcome : PointOutcome) (c : Context), c.repetitions = 0 →
    errorResult outcome c = ⟨outcome, .error, 0, none, none, c.saturated⟩) ∧
  ∀ (outcome : PointOutcome) (c : Context) (lo hi : Int), c.range = some (lo, hi) → lo ≤ hi →
    errorResult outcome c = ⟨outcome, .error, c.repetitions, if 1 ≤ c.repetitions then some (meanOf c) else none,
      if 2 ≤ c.repetitions then some (hi - lo).toNat else none, c.saturated⟩

/-- R49, R50, R62 to R67, R74, R80, R81: what a meter edge does to the context and the entry of its position, by method and phase; it is
used only for an ACTIVE member not DONE while a point is measured. By the model's choices the slot's input is confirmed at the level of
the edge (log 6), METER_EDGE before the input's first sample is an edge and is delivered (log 30), and a member that is done keeps C0 and
the edge count of its last gate (log 24). -/
def Obligations.MeterEdgesDriveTheGatesAndCounts : Prop :=
  ∀ (s : State) (slot p : Pos), p.val = (if s.settings.orient = .normal then slot.val else 47 - slot.val) →
    ((getRec s p).identity = none → exec (.meterEdge slot) s = .next s) ∧
    ∀ i : Identity, (getRec s p).identity = some i →
      let u := { s with front := { s.front with filters := s.front.filters.set slot ⟨decide (i.sense = .rising), false, true⟩ } }
      let r := getRec s p
      (s.engine.point = none ∨ r.state ≠ .active ∨ (∃ c, r.context = some c ∧ c.phase = .done) →
        exec (.meterEdge slot) s = .next u) ∧
      ∀ (c : Context) (point : Point), s.engine.point = some s.run.index → s.plan[s.run.index]? = some point →
        r.state = .active → r.context = some c → c.phase ≠ .done →
        let goesOn := fun c' : Context => exec (.meterEdge slot) s = .next (putRec u p { r with context := some c' })
        let isDone := fun (c' : Context) (result : PointResult) => exec (.meterEdge slot) s = .next (membersChanged
          { putRec u p { r with
              results := r.results.set s.run.index result, context := some { c' with phase := .done } } with
            run := { s.run with done := s.run.done.insert p } })
        (∀ n reps timeout limits, point.body = .error n reps timeout limits →
          (c.phase = .awaitEdge → s.front.present = false → goesOn c) ∧
          (c.phase = .awaitEdge → s.front.present = true →
            goesOn { c with phase := .gateOpen, c0 := s.front.counter, edges := 0 }) ∧
          (c.phase = .gateOpen → c.edges + 1 < n → goesOn { c with edges := c.edges + 1 }) ∧
          (c.phase = .gateOpen → n ≤ c.edges + 1 →
            let count := (s.front.counter - c.c0).toNat
            let counted := accumulate { c with edges := c.edges + 1 } (repetitionError n i.mr count) (saturates n i.mr count)
            (count = 0 → goesOn { c with c0 := s.front.counter, edges := 0 }) ∧
            (count ≠ 0 → c.repetitions + 1 < reps → goesOn { counted with c0 := s.front.counter, edges := 0 }) ∧
            (count ≠ 0 → reps ≤ c.repetitions + 1 → isDone counted
              (errorResult (judge (limits.get i.cls).1 (limits.get i.cls).2 counted) counted)))) ∧
        (∀ window required, point.body = .start window required →
          (c.pulses + 1 < required → goesOn { c with pulses := c.pulses + 1 }) ∧
          (required ≤ c.pulses + 1 →
            isDone { c with pulses := c.pulses + 1 } ⟨.pass, .start, 0, some (c.pulses + 1 : Nat), none, false⟩)) ∧
        ∀ window allowed, point.body = .creep window allowed →
          (c.pulses + 1 ≤ allowed → goesOn { c with pulses := c.pulses + 1 }) ∧
          (allowed < c.pulses + 1 →
            isDone { c with pulses := c.pulses + 1 } ⟨.fail, .creep, 0, some (c.pulses + 1 : Nat), none, false⟩)

/-- R53, R54, R56, R75, R76: a rising edge of the selected input is counted unless it follows too closely, and starts the presence window;
at the window's end the reference is ABSENT and an ERROR point's open gates are lost, with one REF_LOST raise. That C0 keeps the capture
of the lost gate is the model's choice (log 24). That REFERENCE_EDGE carries its input and its spacing is deduced (log 10). That the
expiry of a window not due changes nothing is R1 as log 3 reads it. -/
def Obligations.TheReferenceIsCountedWhilePresent : Prop :=
  ∀ s : State,
    (∀ input spacing, input = s.settings.refSelect → spacing = .ample →
      exec (.referenceEdge input spacing) s = .next { s with front := { s.front with
        counter := s.front.counter + 1, present := true, window := some ⟨s.settings.refWindow, s.settings.refWindow⟩ } }) ∧
    (∀ input spacing, input ≠ s.settings.refSelect ∨ spacing = .close → exec (.referenceEdge input spacing) s = .next s) ∧
    (¬Due s.front.window → exec .presenceWindowExpiry s = .next s) ∧
    (Due s.front.window →
      let absent := { s with front := { s.front with present := false, window := none } }
      let gateOpen := fun p => (getRec s p).state = .active ∧ ∃ c, (getRec s p).context = some c ∧ c.phase = .gateOpen
      let errorPoint := s.engine.point ≠ none ∧ ∃ point n reps timeout limits, s.plan[s.run.index]? = some point ∧
        point.body = .error n reps timeout limits
      (¬errorPoint ∨ (∀ p, ¬gateOpen p) → exec .presenceWindowExpiry s = .next absent) ∧
      (errorPoint → (∃ p, gateOpen p) →
        ∃ u, exec .presenceWindowExpiry s = .next (raiseFault 0x04 0 u) ∧ OnlyChanges [.table] absent u ∧
          u.table.index = s.table.index ∧
          ∀ p, (gateOpen p → ∀ c, (getRec s p).context = some c →
              getRec u p = { getRec s p with context := some { c with phase := .awaitEdge, edges := 0 } }) ∧
            (¬gateOpen p → getRec u p = getRec s p)))

/-- R63, R78, R80, R81: at the point timer's expiry every member not DONE gets its outcome by method and presence, and all are done. That
the expiry of a timer not due changes nothing is R1 as log 3 reads it. -/
def Obligations.ThePointTimerGivesTheRestTheirOutcome : Prop :=
  ∀ s : State,
    (¬Due s.engine.timer → exec .pointTimerExpiry s = .next s) ∧
    ∀ point, Due s.engine.timer → s.engine.point = some s.run.index → s.plan[s.run.index]? = some point →
      ∃ u, exec .pointTimerExpiry s = .next (membersChanged u) ∧ OnlyChanges [.table, .engine, .run] s u ∧
        u.table.index = s.table.index ∧ u.engine = { s.engine with timer := none } ∧
        u.run = { s.run with done := s.run.members } ∧
        ∀ p, (∀ c, (getRec s p).state = .active → (getRec s p).context = some c → c.phase ≠ .done →
            getRec u p = { getRec s p with
              results := (getRec s p).results.set s.run.index (match point.body with
                | .error .. => errorResult (if s.front.present then .noPulse else .noReference) c
                | .start .. => ⟨.fail, .start, 0, some c.pulses, none, false⟩
                | .creep .. => ⟨.pass, .creep, 0, some c.pulses, none, false⟩)
              context := some { c with phase := .done } }) ∧
          ((getRec s p).state ≠ .active ∨ (getRec s p).context = none ∨ (∃ c, (getRec s p).context = some c ∧ c.phase = .done) →
            getRec u p = getRec s p)

/-- R46, R47, R48, R49, R51: at a sample instant every slot's filter takes its sample; with no edge of an ACTIVE position nothing else
changes but the rate in force; with edges, the rest is what their METER_EDGE rows do one after another. By the model's choices a change
confirmed is carried out as its row (log 4), and the slots are taken from the lowest up (log 5); that the rate in force is a field beside
the setting is deduced (log 22). -/
def Obligations.SamplesConfirmLevelsAndDeliverEdges : Prop :=
  ∀ (inputs : BitVec 48) (s : State),
    let edgeAt := fun slot : Pos =>
      Confirming (s.front.filters.get slot) (inputs.getLsbD slot.val) ∧
        (getRec s (slotOf s.settings.orient slot)).state = .active ∧
        ∃ i, (getRec s (slotOf s.settings.orient slot)).identity = some i ∧
          (i.sense = .rising ↔ inputs.getLsbD slot.val = true)
    let filters := Tbl.ofFn fun slot : Pos => filterAfter (s.front.filters.get slot) (inputs.getLsbD slot.val)
    (∃ t, exec (.sampleInstant inputs) s = .next t ∧ t.front.filters = filters ∧ t.front.rateNow = s.settings.sampleRate ∧
      t.front.counter = s.front.counter ∧ t.front.present = s.front.present ∧ t.front.window = s.front.window) ∧
    ((∀ slot, ¬edgeAt slot) → exec (.sampleInstant inputs) s =
      .next { s with front := { s.front with filters := filters, rateNow := s.settings.sampleRate } }) ∧
    ∀ slots : List Pos, slots.Pairwise (· < ·) → (∀ slot, slot ∈ slots ↔ edgeAt slot) →
      ∃ u, execAll (slots.map .meterEdge) s = .next u ∧ exec (.sampleInstant inputs) s =
        .next { u with front := { u.front with filters := filters, rateNow := s.settings.sampleRate } }

/-! ## Operator panel and time base -/

/-- R23, R135, R164 to R168, R175, R176: a key row's press acts only when no other key is down, and restarts a mode in force; the function
keys and the position keys act as the requests they stand for, with the panel taking the answer; at the end of a scan the press noted acts
when it is the only one, of the only key down, and not barred by a BENCH_CLEAR. By the model's choices a row finding its key DOWN already
is no press, one with another key DOWN does not act, a key not yet sampled after a reset counts as UP (log 9), a release of a key already
UP changes nothing (log 4), a release before the key's first sample seeds it UP (log 30), and a CLOSE_CANCEL that comes together with the
service a position key's CLOSE begins is taken first (log 29); that a press restarts the mode before it acts is deduced (log 15); that a
press is noted until column 7, and that its key held down across a BENCH_CLEAR bars it, are deduced (log 23). -/
def Obligations.KeysActAsTheirRequestsWhenAlone : Prop :=
  ∀ s : State,
    (∀ k, (s.panel.keys.get k).level = true → exec (keyRow k) s = .next s ∧ exec (.keyPressNotActing k) s = .next s) ∧
    (∀ k, (s.panel.keys.get k).level = false →
      exec (.keyPressNotActing k) s = .next (pressed k s) ∧
      ((∃ j, j ≠ k ∧ (s.panel.keys.get j).level = true) → exec (keyRow k) s = .next (pressed k s))) ∧
    (∀ k, ((s.panel.keys.get k).seeded = true ∧ (s.panel.keys.get k).level = false → exec (.keyRelease k) s = .next s) ∧
      ((s.panel.keys.get k).seeded = false ∨ (s.panel.keys.get k).level = true →
        exec (.keyRelease k) s = .next { s with panel := { s.panel with keys := s.panel.keys.set k ⟨false, false, true⟩ } })) ∧
    (AllKeysUp s →
      let mode := fun (k : Fin 56) (m : PanelMode) => { pressed k s with panel := { (pressed k s).panel with
        mode := m, modeTimer := some ⟨s.settings.panelTimeout * 1000, s.settings.panelTimeout * 1000⟩ } }
      let asked := fun (k : Fin 56) => { pressed k s with
        link := { s.link with receiver := .idle }, pending := if CanTake s then s.pending else [] }
      let back := fun u : State => { u with link := s.link, pending := s.pending }
      exec .loadKey s = .next (mode 48 .load) ∧ exec .closeKey s = .next (mode 49 .close) ∧
      exec .removeKey s = .next (mode 50 .remove) ∧
      exec .cancelKey s = .next { pressed 55 s with panel := { (pressed 55 s).panel with mode := .none, modeTimer := none } } ∧
      exec .lampTestKey s = .next { pressed 54 s with panel := { (pressed 54 s).panel with lampTest := some ⟨3000, 3000⟩ } } ∧
      (∃ u, exec (.runHold .addressed) (asked 51) = .next u ∧ exec .holdKey s = .next (back u)) ∧
      (∃ u, exec (.runResume .addressed) (asked 52) = .next u ∧ exec .resumeKey s = .next (back u)) ∧
      (∃ u, exec (.runAbort .addressed) (asked 53) = .next u ∧ exec .stopKey s = .next (back u)) ∧
      ∀ slot p : Pos, p.val = (if s.settings.orient = .normal then slot.val else 47 - slot.val) →
        let k : Fin 56 := ⟨slot.val, by omega⟩
        let flashing := fun u : State => { back u with
          panel := { u.panel with flashes := u.panel.flashes.set slot (some ⟨1000, 1000⟩) } }
        (s.panel.mode = .none → exec (.positionKey slot) s = .next (pressed k s)) ∧
        (s.panel.mode = .load → ∃ u st, exec (.confirm .addressed (byte p.val)) (asked k) = .next u ∧
          u.link.response = some ⟨st, []⟩ ∧
          exec (.positionKey slot) s = .next (if st = .ok then raiseOperator ⟨PosSet.single p, 0, 0⟩ (back u)
            else flashing u)) ∧
        (s.panel.mode = .close → ∃ u st, exec (.close .addressed (byte p.val)) (asked k) = .next u ∧
          u.link.response = some ⟨st, []⟩ ∧
          exec (.positionKey slot) s = .next (if st = .ok then back u else flashing u)) ∧
        (s.panel.mode = .remove → ∃ u st, exec (.retire .addressed (byte p.val)) (asked k) = .next u ∧
          u.link.response = some ⟨st, []⟩ ∧
          exec (.positionKey slot) s = .next (if st = .ok then raiseOperator ⟨0, PosSet.single p, 0⟩ (back u)
            else if st = .unreported then raiseOperator ⟨0, 0, PosSet.single p⟩ (flashing u) else flashing u))) ∧
    (∀ k, AllKeysUp s → exec (keyRow k) s = .next (keyActs k (pressed k s))) ∧
    let scanned := { s with panel := { s.panel with scanPresses := 0, scanBarred := false } }
    (∀ k, s.panel.scanBarred = false → s.panel.scanPresses = BitVec.twoPow 56 k.val →
      (∀ j, j ≠ k → (s.panel.keys.get j).level = false) → endScan s = keyActs k scanned) ∧
    (s.panel.scanBarred = true ∨
      (∀ k, s.panel.scanPresses = BitVec.twoPow 56 k.val → ∃ j, j ≠ k ∧ (s.panel.keys.get j).level = true) → endScan s = scanned)

/-- R167, R169 to R174: the ends of the mode, of a refusal flash and of the lamp test when their timers are due, and what each lamp shows
and how brightly. That the expiry of a timer not due changes nothing is R1 as log 3 reads it. -/
def Obligations.PanelTimersEndAndLampsShowTheRecords : Prop :=
  ∀ s : State,
    (Due s.panel.modeTimer →
      exec .modeTimerExpiry s = .next { s with panel := { s.panel with mode := .none, modeTimer := none } }) ∧
    (¬Due s.panel.modeTimer → exec .modeTimerExpiry s = .next s) ∧
    (∀ slot, (Due (s.panel.flashes.get slot) → exec (.refusalFlashExpiry slot) s =
        .next { s with panel := { s.panel with flashes := s.panel.flashes.set slot none } }) ∧
      (¬Due (s.panel.flashes.get slot) → exec (.refusalFlashExpiry slot) s = .next s)) ∧
    (Due s.panel.lampTest → exec .lampTestExpiry s = .next { s with panel := { s.panel with lampTest := none } }) ∧
    (¬Due s.panel.lampTest → exec .lampTestExpiry s = .next s) ∧
    (∀ slot p : Pos, p.val = (if s.settings.orient = .normal then slot.val else 47 - slot.val) →
      let r := getRec s p
      lampAppearance s slot =
        if s.panel.lampTest ≠ none then ⟨true, true, .steady⟩
        else if s.panel.flashes.get slot ≠ none then ⟨true, false, .fast⟩
        else match r.state with
          | .vacant => ⟨false, false, .off⟩
          | .mounted => ⟨true, true, .slow⟩
          | .ready => ⟨true, true, .steady⟩
          | .active => ⟨true, true, .breathing⟩
          | .passed => if r.spoiled = none then ⟨false, true, .steady⟩ else ⟨true, false, .fast⟩
          | .failed => ⟨true, false, .steady⟩
          | .closing => ⟨false, true, .breathing⟩
          | .closed => if ∃ tag, r.closure = some tag ∧ tag.acknowledged = true then ⟨false, true, .quarter⟩
            else ⟨false, true, .slow⟩) ∧
    ∀ (a : Appearance) (brightness t : Nat),
      let peak := 17 * brightness
      let i := match a.pattern with
        | .off => 0
        | .steady => peak
        | .quarter => peak / 4
        | .slow => if t % 1000 < 500 then peak else 0
        | .fast => if t % 250 < 125 then peak else 0
        | .breathing => if t ≤ 999 then peak * t / 1000 else peak * (2000 - t) / 1000
      lampOf a brightness t = ⟨if a.red then i * i / 255 else 0, if a.green then i * i / 255 else 0⟩

/-- R1, R89, R112, R144, R163, R165, R167, R172, R173: a tick advances the clock, from 1,999 to 0, and counts the timers, takes the
expiries due before it, reads the lines one after the other, each seeded by its first reading and carried out as its row where a change
is confirmed, samples the keys of the column, judges the full scan at column 7, and drives the next column's lamps. The model's choices:
the expiries come at the tick after they are due, in the order of the table (log 3), a change is carried out as its row (log 4), the
lines come in a fixed order (log 5), a SOLO part keeps its line filters (log 14), a confirmed press restarts the mode before it acts
(log 15), the lamp rows are driven from the start of their slot (log 19), and the presses of a scan are noted (log 23). -/
def Obligations.ATickCountsTimeAndTakesTheLines : Prop :=
  ∀ (srcReady home pressDone phase done : Bool) (rows : BitVec 7) (s : State),
    let less := fun t : Option Timer => t.map fun t => ⟨t.length, t.left - 1⟩
    let counted := { s with
      front := { s.front with window := less s.front.window }, engine := { s.engine with timer := less s.engine.timer }
      run := { s.run with
        latency := less s.run.latency, source := less s.run.source, settle := less s.run.settle, guard := less s.run.guard
        holdOff := less s.run.holdOff, phaseLow := less s.run.phaseLow }
      closure := { s.closure with
        stepTimer := less s.closure.stepTimer, dwellTimer := less s.closure.dwellTimer
        pressTimer := less s.closure.pressTimer }
      panel := { s.panel with
        clock := (s.panel.clock + 1) % 2000, modeTimer := less s.panel.modeTimer
        flashes := Tbl.ofFn fun slot => less (s.panel.flashes.get slot), lampTest := less s.panel.lampTest } }
    let expiry := fun (t : Option Timer) (row : Instr) => if Due t then [row] else []
    let expiries := expiry s.front.window .presenceWindowExpiry ++ expiry s.engine.timer .pointTimerExpiry ++
      expiry s.run.latency .latencyTimerExpiry ++ expiry s.run.source .sourceTimerExpiry ++ expiry s.run.settle .settleTimerExpiry ++
      expiry s.run.phaseLow .phaseLowIntervalEnd ++ expiry s.run.holdOff .cascadeHoldOffExpiry ++
      expiry s.run.guard .guardTimerExpiry ++ expiry s.closure.stepTimer .stepTimerExpiry ++
      expiry s.closure.dwellTimer .dwellTimerExpiry ++ expiry s.closure.pressTimer .pressTimerExpiry ++
      expiry s.panel.modeTimer .modeTimerExpiry ++
      ((List.finRange 48).flatMap fun slot => expiry (s.panel.flashes.get slot) (.refusalFlashExpiry slot)) ++
      expiry s.panel.lampTest .lampTestExpiry
    let onLine := fun (f g : Filter) => if s.straps.role = .solo then f else g
    let first := fun (f : Filter) (sample : Bool) => if f.seeded then f else ⟨sample, false, true⟩
    let change := fun (f : Filter) (level : Bool) (rise fall : Instr) =>
      if f.seeded = true ∧ f.pending = true ∧ level ≠ f.level then [if level then rise else fall] else []
    let press := fun k : Fin 56 => k.val % 8 = s.panel.column.val ∧ rows.getLsbD (k.val / 8) = true ∧
      Confirming (s.panel.keys.get k) true
    ∃ v0 v1 v2 v3 v4 u lines keys scan t, execAll expiries counted = .next v0 ∧
      execAll (change s.run.srcReady srcReady .srcReadyRise .srcReadyFall)
        { v0 with run := { v0.run with srcReady := first s.run.srcReady srcReady } } = .next v1 ∧
      execAll (change s.closure.home home .homeRise .homeFall)
        { v1 with closure := { v1.closure with home := first s.closure.home home } } = .next v2 ∧
      execAll (change s.closure.pressDone pressDone .pressDoneRise .pressDoneFall)
        { v2 with closure := { v2.closure with pressDone := first s.closure.pressDone pressDone } } = .next v3 ∧
      execAll (change s.run.phaseLine phase .phaseRise .phaseFall)
        { v3 with run := { v3.run with phaseLine := onLine s.run.phaseLine (first s.run.phaseLine phase) } } = .next v4 ∧
      execAll (change s.run.doneLine done .doneRise .doneFall)
        { v4 with run := { v4.run with doneLine := onLine s.run.doneLine (first s.run.doneLine done) } } = .next u ∧
      lines = { u with
        run := { u.run with
          srcReady := filterAfter s.run.srcReady srcReady, phaseReading := phase, doneReading := done
          phaseLine := onLine s.run.phaseLine (filterAfter s.run.phaseLine phase)
          doneLine := onLine s.run.doneLine (filterAfter s.run.doneLine done) }
        closure := { u.closure with
          home := filterAfter s.closure.home home, pressDone := filterAfter s.closure.pressDone pressDone } } ∧
      keys = { lines with panel := { lines.panel with
        keys := keys.panel.keys, scanPresses := keys.panel.scanPresses, modeTimer := keys.panel.modeTimer } } ∧
      (∀ k : Fin 56, keys.panel.keys.get k = if k.val % 8 = s.panel.column.val then
        filterAfter (s.panel.keys.get k) (rows.getLsbD (k.val / 8)) else s.panel.keys.get k) ∧
      (∀ k : Fin 56, keys.panel.scanPresses.getLsbD k.val = true ↔ s.panel.scanPresses.getLsbD k.val = true ∨ press k) ∧
      ((∃ k, press k) → u.panel.mode ≠ .none →
        keys.panel.modeTimer = some ⟨s.settings.panelTimeout * 1000, s.settings.panelTimeout * 1000⟩) ∧
      ((∀ k, ¬press k) ∨ u.panel.mode = .none → keys.panel.modeTimer = u.panel.modeTimer) ∧
      scan = (if s.panel.column = 7 then endScan keys else keys) ∧
      exec (.millisecondTick srcReady home pressDone phase done rows) s = .next t ∧
      t = { scan with panel := { scan.panel with column := s.panel.column + 1, drive := t.panel.drive } } ∧
      (∀ row, t.panel.drive.get row =
        lampOf (lampAppearance t (lampSlot t.panel.column row)) t.settings.brightness t.panel.clock) ∧
      ∀ (column : Fin 8) (row : Fin 6), (lampSlot column row).val = 8 * row.val + column.val

/-! ## What every step keeps -/

/-- The laws that the following statements speak of hold right after reset, whose straps are the model's choice (log 7). -/
def Obligations.TheLawsHoldAfterReset : Prop :=
  BenchLaw State.reset ∧ IndexLaw State.reset ∧ StockLaw State.reset ∧ TagLaw State.reset ∧ CascadeLaw State.reset ∧
    MeasurementLaw State.reset ∧ CarriageLaw State.reset ∧ LinkLaw State.reset ∧ AtnLaw State.reset

/-- R181, R183, R190, R195: every step keeps ATN asserted exactly while some class calls the host, and the link's response, TXEN, frame
and cursor in order. That the response stays held while it is being sent is the model's, deduced from R183 (log 21). -/
def Obligations.EveryStepKeepsAtnAndTheLinkInOrder : Prop :=
  (∀ s t : State, AtnLaw s → step s = .next t → AtnLaw t) ∧ ∀ s t : State, LinkLaw s → step s = .next t → LinkLaw t

/-- R3, R6, R7, R87, R92, R133, R203: every step keeps the records, the run and the queue in agreement. R143 and R150 leave no entry
waiting in IDLE; that one may wait whose CLOSE_CANCEL is the very next command is the model's choice (R139; log 29). -/
def Obligations.EveryStepKeepsTheBenchInAgreement : Prop := ∀ s t : State, BenchLaw s → step s = .next t → BenchLaw t

/-- R9: every step keeps the index at the serials of the non-VACANT records, and no serial is held twice. -/
def Obligations.EveryStepKeepsSerialsUniqueAndIndexed : Prop :=
  ∀ s t : State, BenchLaw s → IndexLaw s → step s = .next t → IndexLaw t

/-- R123, R129: every step keeps the roll slots in order and the reservations within the remaining count. -/
def Obligations.EveryStepKeepsATagForEveryReservation : Prop :=
  ∀ s t : State, BenchLaw s → StockLaw s → step s = .next t → StockLaw t

/-- R125: every step keeps each tag number in one place only. -/
def Obligations.EveryStepKeepsTagNumbersSingle : Prop :=
  ∀ s t : State, BenchLaw s → StockLaw s → TagLaw s → step s = .next t → TagLaw t

/-- R142, R143, R145, R147, R158: every step keeps the step count within TRAVEL and the queued positions within reach, the phases, PRESS
and the unit's timers to the unit state, and the excitation index in the pattern. That the index lies in the pattern in UNHOMED and FAULT
too is deduced (log 17). -/
def Obligations.EveryStepKeepsTheCarriageWithinTravel : Prop :=
  ∀ s t : State, BenchLaw s → CarriageLaw s → step s = .next t → CarriageLaw t

/-- R88, R102, R111, R113, R117: every step keeps the cascade lines and the run's timers to the run state and the role. -/
def Obligations.EveryStepKeepsTheCascadeLinesToTheRun : Prop :=
  ∀ s t : State, BenchLaw s → MeasurementLaw s → CascadeLaw s → step s = .next t → CascadeLaw t

/-- R28, R60, R88: every step keeps the engine, the point index, the plan's length and the LOAD code to the run state. -/
def Obligations.EveryStepKeepsTheMeasurementToTheRun : Prop :=
  ∀ s t : State, BenchLaw s → CascadeLaw s → MeasurementLaw s → step s = .next t → MeasurementLaw t
end

