-- ==== Sys2Proof/Laws/State.lean ====
section
/-! SUPPORT. One lemma per field per update of State, so that no proof unfolds a record update. -/

namespace Sys2Proof.Machine

variable (s : State)

@[simp] theorem State.setSettings_straps (v : Settings) : (s.setSettings v).straps = s.straps := rfl
@[simp] theorem State.setSettings_settings (v : Settings) : (s.setSettings v).settings = v := rfl
@[simp] theorem State.setSettings_link (v : Settings) : (s.setSettings v).link = s.link := rfl
@[simp] theorem State.setSettings_attn (v : Settings) : (s.setSettings v).attn = s.attn := rfl
@[simp] theorem State.setSettings_table (v : Settings) : (s.setSettings v).table = s.table := rfl
@[simp] theorem State.setSettings_plan (v : Settings) : (s.setSettings v).plan = s.plan := rfl
@[simp] theorem State.setSettings_front (v : Settings) : (s.setSettings v).front = s.front := rfl
@[simp] theorem State.setSettings_engine (v : Settings) : (s.setSettings v).engine = s.engine := rfl
@[simp] theorem State.setSettings_run (v : Settings) : (s.setSettings v).run = s.run := rfl
@[simp] theorem State.setSettings_stock (v : Settings) : (s.setSettings v).stock = s.stock := rfl
@[simp] theorem State.setSettings_closure (v : Settings) : (s.setSettings v).closure = s.closure := rfl
@[simp] theorem State.setSettings_panel (v : Settings) : (s.setSettings v).panel = s.panel := rfl
@[simp] theorem State.setSettings_pending (v : Settings) : (s.setSettings v).pending = s.pending := rfl
@[simp] theorem State.setSettings_setSettings (v w : Settings) : (s.setSettings v).setSettings w = s.setSettings w := rfl
@[simp] theorem State.setSettings_self : s.setSettings s.settings = s := rfl

@[simp] theorem State.setLink_straps (v : Link) : (s.setLink v).straps = s.straps := rfl
@[simp] theorem State.setLink_settings (v : Link) : (s.setLink v).settings = s.settings := rfl
@[simp] theorem State.setLink_link (v : Link) : (s.setLink v).link = v := rfl
@[simp] theorem State.setLink_attn (v : Link) : (s.setLink v).attn = s.attn := rfl
@[simp] theorem State.setLink_table (v : Link) : (s.setLink v).table = s.table := rfl
@[simp] theorem State.setLink_plan (v : Link) : (s.setLink v).plan = s.plan := rfl
@[simp] theorem State.setLink_front (v : Link) : (s.setLink v).front = s.front := rfl
@[simp] theorem State.setLink_engine (v : Link) : (s.setLink v).engine = s.engine := rfl
@[simp] theorem State.setLink_run (v : Link) : (s.setLink v).run = s.run := rfl
@[simp] theorem State.setLink_stock (v : Link) : (s.setLink v).stock = s.stock := rfl
@[simp] theorem State.setLink_closure (v : Link) : (s.setLink v).closure = s.closure := rfl
@[simp] theorem State.setLink_panel (v : Link) : (s.setLink v).panel = s.panel := rfl
@[simp] theorem State.setLink_pending (v : Link) : (s.setLink v).pending = s.pending := rfl
@[simp] theorem State.setLink_setLink (v w : Link) : (s.setLink v).setLink w = s.setLink w := rfl
@[simp] theorem State.setLink_self : s.setLink s.link = s := rfl

@[simp] theorem State.setAttn_straps (v : Attention) : (s.setAttn v).straps = s.straps := rfl
@[simp] theorem State.setAttn_settings (v : Attention) : (s.setAttn v).settings = s.settings := rfl
@[simp] theorem State.setAttn_link (v : Attention) : (s.setAttn v).link = s.link := rfl
@[simp] theorem State.setAttn_attn (v : Attention) : (s.setAttn v).attn = v := rfl
@[simp] theorem State.setAttn_table (v : Attention) : (s.setAttn v).table = s.table := rfl
@[simp] theorem State.setAttn_plan (v : Attention) : (s.setAttn v).plan = s.plan := rfl
@[simp] theorem State.setAttn_front (v : Attention) : (s.setAttn v).front = s.front := rfl
@[simp] theorem State.setAttn_engine (v : Attention) : (s.setAttn v).engine = s.engine := rfl
@[simp] theorem State.setAttn_run (v : Attention) : (s.setAttn v).run = s.run := rfl
@[simp] theorem State.setAttn_stock (v : Attention) : (s.setAttn v).stock = s.stock := rfl
@[simp] theorem State.setAttn_closure (v : Attention) : (s.setAttn v).closure = s.closure := rfl
@[simp] theorem State.setAttn_panel (v : Attention) : (s.setAttn v).panel = s.panel := rfl
@[simp] theorem State.setAttn_pending (v : Attention) : (s.setAttn v).pending = s.pending := rfl
@[simp] theorem State.setAttn_setAttn (v w : Attention) : (s.setAttn v).setAttn w = s.setAttn w := rfl
@[simp] theorem State.setAttn_self : s.setAttn s.attn = s := rfl

@[simp] theorem State.setTable_straps (v : Table) : (s.setTable v).straps = s.straps := rfl
@[simp] theorem State.setTable_settings (v : Table) : (s.setTable v).settings = s.settings := rfl
@[simp] theorem State.setTable_link (v : Table) : (s.setTable v).link = s.link := rfl
@[simp] theorem State.setTable_attn (v : Table) : (s.setTable v).attn = s.attn := rfl
@[simp] theorem State.setTable_table (v : Table) : (s.setTable v).table = v := rfl
@[simp] theorem State.setTable_plan (v : Table) : (s.setTable v).plan = s.plan := rfl
@[simp] theorem State.setTable_front (v : Table) : (s.setTable v).front = s.front := rfl
@[simp] theorem State.setTable_engine (v : Table) : (s.setTable v).engine = s.engine := rfl
@[simp] theorem State.setTable_run (v : Table) : (s.setTable v).run = s.run := rfl
@[simp] theorem State.setTable_stock (v : Table) : (s.setTable v).stock = s.stock := rfl
@[simp] theorem State.setTable_closure (v : Table) : (s.setTable v).closure = s.closure := rfl
@[simp] theorem State.setTable_panel (v : Table) : (s.setTable v).panel = s.panel := rfl
@[simp] theorem State.setTable_pending (v : Table) : (s.setTable v).pending = s.pending := rfl
@[simp] theorem State.setTable_setTable (v w : Table) : (s.setTable v).setTable w = s.setTable w := rfl
@[simp] theorem State.setTable_self : s.setTable s.table = s := rfl

@[simp] theorem State.setPlan_straps (v : List Point) : (s.setPlan v).straps = s.straps := rfl
@[simp] theorem State.setPlan_settings (v : List Point) : (s.setPlan v).settings = s.settings := rfl
@[simp] theorem State.setPlan_link (v : List Point) : (s.setPlan v).link = s.link := rfl
@[simp] theorem State.setPlan_attn (v : List Point) : (s.setPlan v).attn = s.attn := rfl
@[simp] theorem State.setPlan_table (v : List Point) : (s.setPlan v).table = s.table := rfl
@[simp] theorem State.setPlan_plan (v : List Point) : (s.setPlan v).plan = v := rfl
@[simp] theorem State.setPlan_front (v : List Point) : (s.setPlan v).front = s.front := rfl
@[simp] theorem State.setPlan_engine (v : List Point) : (s.setPlan v).engine = s.engine := rfl
@[simp] theorem State.setPlan_run (v : List Point) : (s.setPlan v).run = s.run := rfl
@[simp] theorem State.setPlan_stock (v : List Point) : (s.setPlan v).stock = s.stock := rfl
@[simp] theorem State.setPlan_closure (v : List Point) : (s.setPlan v).closure = s.closure := rfl
@[simp] theorem State.setPlan_panel (v : List Point) : (s.setPlan v).panel = s.panel := rfl
@[simp] theorem State.setPlan_pending (v : List Point) : (s.setPlan v).pending = s.pending := rfl
@[simp] theorem State.setPlan_setPlan (v w : List Point) : (s.setPlan v).setPlan w = s.setPlan w := rfl
@[simp] theorem State.setPlan_self : s.setPlan s.plan = s := rfl

@[simp] theorem State.setFront_straps (v : Front) : (s.setFront v).straps = s.straps := rfl
@[simp] theorem State.setFront_settings (v : Front) : (s.setFront v).settings = s.settings := rfl
@[simp] theorem State.setFront_link (v : Front) : (s.setFront v).link = s.link := rfl
@[simp] theorem State.setFront_attn (v : Front) : (s.setFront v).attn = s.attn := rfl
@[simp] theorem State.setFront_table (v : Front) : (s.setFront v).table = s.table := rfl
@[simp] theorem State.setFront_plan (v : Front) : (s.setFront v).plan = s.plan := rfl
@[simp] theorem State.setFront_front (v : Front) : (s.setFront v).front = v := rfl
@[simp] theorem State.setFront_engine (v : Front) : (s.setFront v).engine = s.engine := rfl
@[simp] theorem State.setFront_run (v : Front) : (s.setFront v).run = s.run := rfl
@[simp] theorem State.setFront_stock (v : Front) : (s.setFront v).stock = s.stock := rfl
@[simp] theorem State.setFront_closure (v : Front) : (s.setFront v).closure = s.closure := rfl
@[simp] theorem State.setFront_panel (v : Front) : (s.setFront v).panel = s.panel := rfl
@[simp] theorem State.setFront_pending (v : Front) : (s.setFront v).pending = s.pending := rfl
@[simp] theorem State.setFront_setFront (v w : Front) : (s.setFront v).setFront w = s.setFront w := rfl
@[simp] theorem State.setFront_self : s.setFront s.front = s := rfl

@[simp] theorem State.setEngine_straps (v : Engine) : (s.setEngine v).straps = s.straps := rfl
@[simp] theorem State.setEngine_settings (v : Engine) : (s.setEngine v).settings = s.settings := rfl
@[simp] theorem State.setEngine_link (v : Engine) : (s.setEngine v).link = s.link := rfl
@[simp] theorem State.setEngine_attn (v : Engine) : (s.setEngine v).attn = s.attn := rfl
@[simp] theorem State.setEngine_table (v : Engine) : (s.setEngine v).table = s.table := rfl
@[simp] theorem State.setEngine_plan (v : Engine) : (s.setEngine v).plan = s.plan := rfl
@[simp] theorem State.setEngine_front (v : Engine) : (s.setEngine v).front = s.front := rfl
@[simp] theorem State.setEngine_engine (v : Engine) : (s.setEngine v).engine = v := rfl
@[simp] theorem State.setEngine_run (v : Engine) : (s.setEngine v).run = s.run := rfl
@[simp] theorem State.setEngine_stock (v : Engine) : (s.setEngine v).stock = s.stock := rfl
@[simp] theorem State.setEngine_closure (v : Engine) : (s.setEngine v).closure = s.closure := rfl
@[simp] theorem State.setEngine_panel (v : Engine) : (s.setEngine v).panel = s.panel := rfl
@[simp] theorem State.setEngine_pending (v : Engine) : (s.setEngine v).pending = s.pending := rfl
@[simp] theorem State.setEngine_setEngine (v w : Engine) : (s.setEngine v).setEngine w = s.setEngine w := rfl
@[simp] theorem State.setEngine_self : s.setEngine s.engine = s := rfl

@[simp] theorem State.setRun_straps (v : Run) : (s.setRun v).straps = s.straps := rfl
@[simp] theorem State.setRun_settings (v : Run) : (s.setRun v).settings = s.settings := rfl
@[simp] theorem State.setRun_link (v : Run) : (s.setRun v).link = s.link := rfl
@[simp] theorem State.setRun_attn (v : Run) : (s.setRun v).attn = s.attn := rfl
@[simp] theorem State.setRun_table (v : Run) : (s.setRun v).table = s.table := rfl
@[simp] theorem State.setRun_plan (v : Run) : (s.setRun v).plan = s.plan := rfl
@[simp] theorem State.setRun_front (v : Run) : (s.setRun v).front = s.front := rfl
@[simp] theorem State.setRun_engine (v : Run) : (s.setRun v).engine = s.engine := rfl
@[simp] theorem State.setRun_run (v : Run) : (s.setRun v).run = v := rfl
@[simp] theorem State.setRun_stock (v : Run) : (s.setRun v).stock = s.stock := rfl
@[simp] theorem State.setRun_closure (v : Run) : (s.setRun v).closure = s.closure := rfl
@[simp] theorem State.setRun_panel (v : Run) : (s.setRun v).panel = s.panel := rfl
@[simp] theorem State.setRun_pending (v : Run) : (s.setRun v).pending = s.pending := rfl
@[simp] theorem State.setRun_setRun (v w : Run) : (s.setRun v).setRun w = s.setRun w := rfl
@[simp] theorem State.setRun_self : s.setRun s.run = s := rfl

@[simp] theorem State.setStock_straps (v : Tbl 4 RollSlot) : (s.setStock v).straps = s.straps := rfl
@[simp] theorem State.setStock_settings (v : Tbl 4 RollSlot) : (s.setStock v).settings = s.settings := rfl
@[simp] theorem State.setStock_link (v : Tbl 4 RollSlot) : (s.setStock v).link = s.link := rfl
@[simp] theorem State.setStock_attn (v : Tbl 4 RollSlot) : (s.setStock v).attn = s.attn := rfl
@[simp] theorem State.setStock_table (v : Tbl 4 RollSlot) : (s.setStock v).table = s.table := rfl
@[simp] theorem State.setStock_plan (v : Tbl 4 RollSlot) : (s.setStock v).plan = s.plan := rfl
@[simp] theorem State.setStock_front (v : Tbl 4 RollSlot) : (s.setStock v).front = s.front := rfl
@[simp] theorem State.setStock_engine (v : Tbl 4 RollSlot) : (s.setStock v).engine = s.engine := rfl
@[simp] theorem State.setStock_run (v : Tbl 4 RollSlot) : (s.setStock v).run = s.run := rfl
@[simp] theorem State.setStock_stock (v : Tbl 4 RollSlot) : (s.setStock v).stock = v := rfl
@[simp] theorem State.setStock_closure (v : Tbl 4 RollSlot) : (s.setStock v).closure = s.closure := rfl
@[simp] theorem State.setStock_panel (v : Tbl 4 RollSlot) : (s.setStock v).panel = s.panel := rfl
@[simp] theorem State.setStock_pending (v : Tbl 4 RollSlot) : (s.setStock v).pending = s.pending := rfl
@[simp] theorem State.setStock_setStock (v w : Tbl 4 RollSlot) : (s.setStock v).setStock w = s.setStock w := rfl
@[simp] theorem State.setStock_self : s.setStock s.stock = s := rfl

@[simp] theorem State.setClosure_straps (v : Closure) : (s.setClosure v).straps = s.straps := rfl
@[simp] theorem State.setClosure_settings (v : Closure) : (s.setClosure v).settings = s.settings := rfl
@[simp] theorem State.setClosure_link (v : Closure) : (s.setClosure v).link = s.link := rfl
@[simp] theorem State.setClosure_attn (v : Closure) : (s.setClosure v).attn = s.attn := rfl
@[simp] theorem State.setClosure_table (v : Closure) : (s.setClosure v).table = s.table := rfl
@[simp] theorem State.setClosure_plan (v : Closure) : (s.setClosure v).plan = s.plan := rfl
@[simp] theorem State.setClosure_front (v : Closure) : (s.setClosure v).front = s.front := rfl
@[simp] theorem State.setClosure_engine (v : Closure) : (s.setClosure v).engine = s.engine := rfl
@[simp] theorem State.setClosure_run (v : Closure) : (s.setClosure v).run = s.run := rfl
@[simp] theorem State.setClosure_stock (v : Closure) : (s.setClosure v).stock = s.stock := rfl
@[simp] theorem State.setClosure_closure (v : Closure) : (s.setClosure v).closure = v := rfl
@[simp] theorem State.setClosure_panel (v : Closure) : (s.setClosure v).panel = s.panel := rfl
@[simp] theorem State.setClosure_pending (v : Closure) : (s.setClosure v).pending = s.pending := rfl
@[simp] theorem State.setClosure_setClosure (v w : Closure) : (s.setClosure v).setClosure w = s.setClosure w := rfl
@[simp] theorem State.setClosure_self : s.setClosure s.closure = s := rfl

@[simp] theorem State.setPanel_straps (v : Panel) : (s.setPanel v).straps = s.straps := rfl
@[simp] theorem State.setPanel_settings (v : Panel) : (s.setPanel v).settings = s.settings := rfl
@[simp] theorem State.setPanel_link (v : Panel) : (s.setPanel v).link = s.link := rfl
@[simp] theorem State.setPanel_attn (v : Panel) : (s.setPanel v).attn = s.attn := rfl
@[simp] theorem State.setPanel_table (v : Panel) : (s.setPanel v).table = s.table := rfl
@[simp] theorem State.setPanel_plan (v : Panel) : (s.setPanel v).plan = s.plan := rfl
@[simp] theorem State.setPanel_front (v : Panel) : (s.setPanel v).front = s.front := rfl
@[simp] theorem State.setPanel_engine (v : Panel) : (s.setPanel v).engine = s.engine := rfl
@[simp] theorem State.setPanel_run (v : Panel) : (s.setPanel v).run = s.run := rfl
@[simp] theorem State.setPanel_stock (v : Panel) : (s.setPanel v).stock = s.stock := rfl
@[simp] theorem State.setPanel_closure (v : Panel) : (s.setPanel v).closure = s.closure := rfl
@[simp] theorem State.setPanel_panel (v : Panel) : (s.setPanel v).panel = v := rfl
@[simp] theorem State.setPanel_pending (v : Panel) : (s.setPanel v).pending = s.pending := rfl
@[simp] theorem State.setPanel_setPanel (v w : Panel) : (s.setPanel v).setPanel w = s.setPanel w := rfl
@[simp] theorem State.setPanel_self : s.setPanel s.panel = s := rfl

end Sys2Proof.Machine
end

