-- ==== Sys2Proof/Laws/LinkBlind.lean ====
section
/-! SUPPORT. The operations behind requests, keys and events read and write no part of the link: each commutes with replacing it. -/

namespace Sys2Proof.Machine

section Push
variable (s : State) (l : Link)

theorem setLink_ite (c : Prop) [Decidable c] (a b : State) :
    (if c then a else b).setLink l = if c then a.setLink l else b.setLink l := by split <;> rfl

theorem push_setSettings (v : Settings) : (s.setLink l).setSettings v = (s.setSettings v).setLink l := rfl
theorem push_setAttn (v : Attention) : (s.setLink l).setAttn v = (s.setAttn v).setLink l := rfl
theorem push_setTable (v : Table) : (s.setLink l).setTable v = (s.setTable v).setLink l := rfl
theorem push_setPlan (v : List Point) : (s.setLink l).setPlan v = (s.setPlan v).setLink l := rfl
theorem push_setFront (v : Front) : (s.setLink l).setFront v = (s.setFront v).setLink l := rfl
theorem push_setEngine (v : Engine) : (s.setLink l).setEngine v = (s.setEngine v).setLink l := rfl
theorem push_setRun (v : Run) : (s.setLink l).setRun v = (s.setRun v).setLink l := rfl
theorem push_setStock (v : Tbl 4 RollSlot) : (s.setLink l).setStock v = (s.setStock v).setLink l := rfl
theorem push_setClosure (v : Closure) : (s.setLink l).setClosure v = (s.setClosure v).setLink l := rfl
theorem push_setPanel (v : Panel) : (s.setLink l).setPanel v = (s.setPanel v).setLink l := rfl

end Push

variable (s : State) (l : Link)

theorem putAttn_setLink (a : Attention) : putAttn (s.setLink l) a = (putAttn s a).setLink l := rfl

theorem raiseFault_setLink (k : BitVec 7) (ps : PosSet) : raiseFault k ps (s.setLink l) = (raiseFault k ps s).setLink l := rfl

theorem raiseStockLow_setLink (n : Nat) : raiseStockLow n (s.setLink l) = (raiseStockLow n s).setLink l := rfl

theorem raiseClosed_setLink (ps : PosSet) : raiseClosed ps (s.setLink l) = (raiseClosed ps s).setLink l := rfl

theorem raiseOperator_setLink (news : OperatorNews) : raiseOperator news (s.setLink l) = (raiseOperator news s).setLink l := rfl

theorem raiseRunEnd_setLink (e : Ending) : raiseRunEnd e (s.setLink l) = (raiseRunEnd e s).setLink l := rfl

theorem raisePointEnd_setLink (i : Nat) (short : PosSet) : raisePointEnd i short (s.setLink l) = (raisePointEnd i short s).setLink l := rfl

theorem mapRecs_setLink (f : Pos → Record → Record) : mapRecs f (s.setLink l) = (mapRecs f s).setLink l := rfl

theorem stopEngine_setLink : stopEngine (s.setLink l) = (stopEngine s).setLink l := rfl

theorem startMeasurement_setLink (point : Point) : startMeasurement point (s.setLink l) = (startMeasurement point s).setLink l := rfl

theorem completeRun_setLink : completeRun (s.setLink l) = (completeRun s).setLink l := rfl

theorem breakOff_setLink (e : Ending) : breakOff e (s.setLink l) = (breakOff e s).setLink l := rfl

theorem abortRun_setLink : abortRun (s.setLink l) = (abortRun s).setLink l := rfl

theorem takeStep_setLink (m : Move) : takeStep m (s.setLink l) = (takeStep m s).setLink l := rfl

theorem homingStep_setLink : homingStep (s.setLink l) = (homingStep s).setLink l := rfl

theorem noteStockFall_setLink (n : Nat) : noteStockFall n (s.setLink l) = (noteStockFall n s).setLink l := by
  simp only [noteStockFall, State.setLink_stock, State.setLink_settings, raiseStockLow_setLink, setLink_ite]
  rfl

theorem cutMeasurement_setLink : cutMeasurement (s.setLink l) = (cutMeasurement s).setLink l := by
  have h : currentPoint (s.setLink l) = currentPoint s := rfl
  simp only [cutMeasurement, h]
  cases currentPoint s <;> rfl

theorem enterMeasuring_setLink : enterMeasuring (s.setLink l) = (enterMeasuring s).setLink l := by
  have h : currentPoint (s.setLink l) = currentPoint s := rfl
  simp only [enterMeasuring, h, startMeasurement_setLink, State.setLink_straps, State.setLink_run, push_setRun]
  cases currentPoint s with
  | none => rfl
  | some point => cases h : (startMeasurement point s).straps.role <;> simp only [h]

theorem settleOver_setLink : settleOver (s.setLink l) = (settleOver s).setLink l := by
  simp only [settleOver, push_setRun, State.setLink_run, State.setLink_straps, enterMeasuring_setLink, setLink_ite]

theorem enterSettling_setLink : enterSettling (s.setLink l) = (enterSettling s).setLink l := by
  have h : currentPoint (s.setLink l) = currentPoint s := rfl
  simp only [enterSettling, h, push_setRun, State.setLink_run, settleOver_setLink]
  cases currentPoint s with
  | none => rfl
  | some point => simp only [setLink_ite]

theorem lookAtSource_setLink : lookAtSource (s.setLink l) = (lookAtSource s).setLink l := by
  simp only [lookAtSource, push_setRun, State.setLink_run, enterSettling_setLink, setLink_ite]

theorem enterSourcing_setLink : enterSourcing (s.setLink l) = (enterSourcing s).setLink l := by
  have h : currentPoint (s.setLink l) = currentPoint s := rfl
  simp only [enterSourcing, h, push_setRun, State.setLink_run, State.setLink_settings, lookAtSource_setLink]
  cases currentPoint s with
  | none => rfl
  | some point => simp only [setLink_ite]

theorem afterPoint_setLink : afterPoint (s.setLink l) = (afterPoint s).setLink l := by
  have h1 : atLastPoint (s.setLink l) = atLastPoint s := rfl
  have h2 : currentPoint (s.setLink l) = currentPoint s := rfl
  simp only [afterPoint, h1, h2, push_setRun, State.setLink_run, completeRun_setLink, enterSourcing_setLink, setLink_ite]

theorem endPoint_setLink : endPoint (s.setLink l) = (endPoint s).setLink l := by
  have h : shortMembers ((s.setRun (lowerPhase { s.run with guard := none, holdOff := none })).setLink l) =
      shortMembers (s.setRun (lowerPhase { s.run with guard := none, holdOff := none })) := rfl
  simp only [endPoint, push_setRun, State.setLink_run, h, raisePointEnd_setLink, afterPoint_setLink]

theorem membersChanged_setLink : membersChanged (s.setLink l) = (membersChanged s).setLink l := by
  have h : pointEndHolds (s.setLink l) = pointEndHolds s := rfl
  simp only [membersChanged, h, stopEngine_setLink, endPoint_setLink, State.setLink_straps, State.setLink_run, push_setRun]
  cases s.straps.role
  · simp only [setLink_ite]
  · simp only [setLink_ite]
  · rfl

theorem firePress_setLink (n : Nat) : firePress n (s.setLink l) = (firePress n s).setLink l := by
  simp only [firePress, State.setLink_stock, push_setStock, push_setClosure, State.setLink_closure, State.setLink_settings,
    noteStockFall_setLink]
  cases drawSlot s.stock <;> rfl

theorem dwellOver_setLink (n : Nat) : dwellOver n (s.setLink l) = (dwellOver n s).setLink l := by
  simp only [dwellOver, State.setLink_closure, push_setClosure, raiseFault_setLink, firePress_setLink]
  cases s.closure.queue with
  | nil => rfl
  | cons p rest => simp only [setLink_ite]

theorem arrive_setLink (m : Move) : arrive m (s.setLink l) = (arrive m s).setLink l := by
  simp only [arrive, State.setLink_settings, State.setLink_closure, push_setClosure, dwellOver_setLink, setLink_ite]

section Serve
variable (h : l.receiver = .responding ↔ s.link.receiver = .responding)
include h

theorem cancelWaits_setLink : cancelWaits (s.setLink l) = cancelWaits s := by
  have hr : (l.receiver == .responding) = (s.link.receiver == .responding) := by rw [Bool.eq_iff_iff, beq_iff_eq, beq_iff_eq]; exact h
  unfold cancelWaits
  simp only [State.setLink_pending, State.setLink_closure, State.setLink_link, bne, hr]

theorem serve_setLink : serve (s.setLink l) = (serve s).setLink l := by
  simp only [serve, State.setLink_closure, State.setLink_settings, arrive_setLink, takeStep_setLink, cancelWaits_setLink s l h]
  split
  · simp only [setLink_ite]
  · rfl

theorem reachHome_setLink : reachHome (s.setLink l) = (reachHome s).setLink l := by
  simp only [reachHome, push_setClosure, State.setLink_closure]
  exact serve_setLink _ l h

theorem enterHoming_setLink : enterHoming (s.setLink l) = (enterHoming s).setLink l := by
  simp only [enterHoming, State.setLink_closure, push_setClosure, homingStep_setLink, setLink_ite]
  rw [reachHome_setLink _ l (by exact h)]
  rfl

end Serve

end Sys2Proof.Machine
end

