-- ==== Sys2Proof/Laws/Tables.lean ====
section
/-! SUPPORT. Reading tables and position sets after each of their operations. -/

namespace Sys2Proof

variable {n : Nat} {α β : Type}

theorem Tbl.get_eq_getElem (t : Tbl n α) (i : Fin n) : t.get i = t.cells[i.val]'(by simp [t.size]) := rfl

@[simp] theorem Tbl.get_ofFn (f : Fin n → α) (i : Fin n) : (Tbl.ofFn f).get i = f i := by
  rw [Tbl.get_eq_getElem]; simp [Tbl.ofFn]

@[simp] theorem Tbl.get_fill (a : α) (i : Fin n) : (Tbl.fill n a).get i = a := by
  rw [Tbl.get_eq_getElem]; simp [Tbl.fill]

@[simp] theorem Tbl.get_mapIdx (f : Fin n → α → β) (t : Tbl n α) (i : Fin n) : (t.mapIdx f).get i = f i (t.get i) := by
  simp [Tbl.mapIdx]

@[simp] theorem Tbl.get_set_self (t : Tbl n α) (i : Fin n) (a : α) : (t.set i a).get i = a := by
  rw [Tbl.get_eq_getElem]; simp [Tbl.set]

theorem Tbl.get_set_ne (t : Tbl n α) {i j : Fin n} (h : j ≠ i) (a : α) : (t.set i a).get j = t.get j := by
  have : i.val ≠ j.val := fun e => h (Fin.ext e.symm)
  rw [Tbl.get_eq_getElem, Tbl.get_eq_getElem]; simp [Tbl.set, this]

theorem Tbl.get_set (t : Tbl n α) (i j : Fin n) (a : α) : (t.set i a).get j = if j = i then a else t.get j := by
  by_cases h : j = i
  · subst h; simp
  · simp [h, Tbl.get_set_ne t h]

theorem Tbl.ext {t u : Tbl n α} (h : ∀ i, t.get i = u.get i) : t = u := by
  obtain ⟨a, ha⟩ := t
  obtain ⟨b, hb⟩ := u
  congr 1
  refine List.ext_getElem (ha.trans hb.symm) fun i h1 _ => ?_
  simpa [Tbl.get] using h ⟨i, ha ▸ h1⟩

theorem Tbl.mem_cells (t : Tbl n α) (a : α) : a ∈ t.cells ↔ ∃ i, t.get i = a := by
  obtain ⟨c, hc⟩ := t
  constructor
  · intro h
    obtain ⟨i, hi, e⟩ := List.getElem_of_mem h
    exact ⟨⟨i, hc ▸ hi⟩, by simpa [Tbl.get] using e⟩
  · rintro ⟨i, e⟩
    rw [← e]
    simp [Tbl.get]

theorem Tbl.any_iff (f : α → Bool) (t : Tbl n α) : t.any f = true ↔ ∃ i, f (t.get i) = true := by
  simp only [Tbl.any, List.any_eq_true, Tbl.mem_cells]
  exact ⟨fun ⟨_, ⟨i, e⟩, h⟩ => ⟨i, e ▸ h⟩, fun ⟨i, h⟩ => ⟨_, ⟨i, rfl⟩, h⟩⟩

theorem Tbl.all_iff (f : α → Bool) (t : Tbl n α) : t.all f = true ↔ ∀ i, f (t.get i) = true := by
  simp only [Tbl.all, List.all_eq_true, Tbl.mem_cells]
  exact ⟨fun h i => h _ ⟨i, rfl⟩, fun h _ ⟨i, e⟩ => e ▸ h i⟩

theorem Tbl.cells_eq_ofFn (t : Tbl n α) : t.cells = List.ofFn t.get := by
  obtain ⟨c, hc⟩ := t
  refine List.ext_getElem (by simp [hc]) fun i h1 h2 => ?_
  simp [Tbl.get]

@[simp] theorem PosSet.has_ofPred (f : Pos → Bool) (p : Pos) : (PosSet.ofPred f).has p = f p := by
  simp [PosSet.has, PosSet.ofPred]

@[simp] theorem PosSet.has_zero (p : Pos) : PosSet.has 0#48 p = false := by
  simp [PosSet.has]

theorem PosSet.has_single (p q : Pos) : (PosSet.single p).has q = decide (q = p) := by
  simp [PosSet.has, PosSet.single, Fin.ext_iff, eq_comm]

theorem PosSet.has_insert (s : PosSet) (p q : Pos) : (s.insert p).has q = (s.has q || decide (q = p)) := by
  have := PosSet.has_single p q
  simp_all [PosSet.has, PosSet.insert]

theorem PosSet.has_erase (s : PosSet) (p q : Pos) : (s.erase p).has q = (s.has q && !decide (q = p)) := by
  have := PosSet.has_single p q
  simp_all [PosSet.has, PosSet.erase]

theorem PosSet.ext {s t : PosSet} (h : ∀ p, s.has p = t.has p) : s = t :=
  BitVec.eq_of_getLsbD_eq fun i hi => h ⟨i, hi⟩

theorem PosSet.eq_zero_iff (s : PosSet) : s = 0 ↔ ∀ p, s.has p = false :=
  ⟨fun h p => by simp [h], fun h => PosSet.ext fun p => by simp [h p]⟩

end Sys2Proof
end

