-- ==== Sys2Proof/Laws/Ops.lean ====
section
/-! SUPPORT. What each shared operation can change, said once: the frame of every operation of Machine/Ops.lean and of the raises of
Machine/Flags.lean, how a record reads after a record is written, and that an expiry whose timer is not due changes nothing. -/

namespace Sys2Proof.Machine

/-! ## Frames compose -/

theorem OnlyChanges.refl (bs : List Block) (s : State) : OnlyChanges bs s s :=
  ⟨rfl, fun b _ => by cases b <;> rfl⟩

theorem Block.same_trans {s t u : State} {b : Block} (h : b.same s t) (k : b.same t u) : b.same s u := by
  cases b <;> exact Eq.trans k h

theorem OnlyChanges.mono {bs cs : List Block} {s t : State} (h : OnlyChanges bs s t) (sub : bs ⊆ cs) : OnlyChanges cs s t :=
  ⟨h.1, fun b hb => h.2 b fun k => hb (sub k)⟩

theorem OnlyChanges.trans {bs : List Block} {s t u : State} (h : OnlyChanges bs s t) (k : OnlyChanges bs t u) :
    OnlyChanges bs s u :=
  ⟨k.1.trans h.1, fun b hb => Block.same_trans (h.2 b hb) (k.2 b hb)⟩

/-- Two operations in a row, each with a frame of its own. -/
theorem OnlyChanges.comp {bs cs ds : List Block} {s t u : State} (h : OnlyChanges bs s t) (k : OnlyChanges cs t u)
    (hb : bs ⊆ ds := by decide) (hc : cs ⊆ ds := by decide) : OnlyChanges ds s u :=
  (h.mono hb).trans (k.mono hc)

theorem OnlyChanges.ite {bs : List Block} {s t u : State} {c : Prop} [Decidable c] (h : OnlyChanges bs s t)
    (k : OnlyChanges bs s u) : OnlyChanges bs s (if c then t else u) := by
  split <;> assumption

/-! ## Replacing one block -/

section
variable (s : State)

theorem setSettings_frame (v : Settings) : OnlyChanges [.settings] s (s.setSettings v) :=
  ⟨rfl, fun b hb => by cases b <;> first | rfl | exact absurd (by decide) hb⟩
theorem setLink_frame (v : Link) : OnlyChanges [.link] s (s.setLink v) :=
  ⟨rfl, fun b hb => by cases b <;> first | rfl | exact absurd (by decide) hb⟩
theorem setAttn_frame (v : Attention) : OnlyChanges [.attn] s (s.setAttn v) :=
  ⟨rfl, fun b hb => by cases b <;> first | rfl | exact absurd (by decide) hb⟩
theorem setTable_frame (v : Table) : OnlyChanges [.table] s (s.setTable v) :=
  ⟨rfl, fun b hb => by cases b <;> first | rfl | exact absurd (by decide) hb⟩
theorem setPlan_frame (v : List Point) : OnlyChanges [.plan] s (s.setPlan v) :=
  ⟨rfl, fun b hb => by cases b <;> first | rfl | exact absurd (by decide) hb⟩
theorem setFront_frame (v : Front) : OnlyChanges [.front] s (s.setFront v) :=
  ⟨rfl, fun b hb => by cases b <;> first | rfl | exact absurd (by decide) hb⟩
theorem setEngine_frame (v : Engine) : OnlyChanges [.engine] s (s.setEngine v) :=
  ⟨rfl, fun b hb => by cases b <;> first | rfl | exact absurd (by decide) hb⟩
theorem setRun_frame (v : Run) : OnlyChanges [.run] s (s.setRun v) :=
  ⟨rfl, fun b hb => by cases b <;> first | rfl | exact absurd (by decide) hb⟩
theorem setStock_frame (v : Tbl 4 RollSlot) : OnlyChanges [.stock] s (s.setStock v) :=
  ⟨rfl, fun b hb => by cases b <;> first | rfl | exact absurd (by decide) hb⟩
theorem setClosure_frame (v : Closure) : OnlyChanges [.closure] s (s.setClosure v) :=
  ⟨rfl, fun b hb => by cases b <;> first | rfl | exact absurd (by decide) hb⟩
theorem setPanel_frame (v : Panel) : OnlyChanges [.panel] s (s.setPanel v) :=
  ⟨rfl, fun b hb => by cases b <;> first | rfl | exact absurd (by decide) hb⟩

/-! ## Attention -/

theorem putAttn_frame (a : Attention) : OnlyChanges [.attn] s (putAttn s a) := setAttn_frame s _
theorem raiseFault_frame (kind : BitVec 7) (ps : PosSet) : OnlyChanges [.attn] s (raiseFault kind ps s) := putAttn_frame s _
theorem raiseRunEnd_frame (e : Ending) : OnlyChanges [.attn] s (raiseRunEnd e s) := putAttn_frame s _
theorem raisePointEnd_frame (i : Nat) (ps : PosSet) : OnlyChanges [.attn] s (raisePointEnd i ps s) := putAttn_frame s _
theorem raiseClosed_frame (ps : PosSet) : OnlyChanges [.attn] s (raiseClosed ps s) := putAttn_frame s _
theorem raiseOperator_frame (n : OperatorNews) : OnlyChanges [.attn] s (raiseOperator n s) := putAttn_frame s _
theorem raiseStockLow_frame (n : Nat) : OnlyChanges [.attn] s (raiseStockLow n s) := putAttn_frame s _
theorem noteStockFall_frame (n : Nat) : OnlyChanges [.attn] s (noteStockFall n s) :=
  .ite (raiseStockLow_frame s _) (.refl _ s)

/-! ## Records -/

theorem putRec_frame (p : Pos) (r : Record) : OnlyChanges [.table] s (putRec s p r) := setTable_frame s _
theorem mapRecs_frame (f : Pos → Record → Record) : OnlyChanges [.table] s (mapRecs f s) := setTable_frame s _

@[simp] theorem getRec_putRec_self (p : Pos) (r : Record) : getRec (putRec s p r) p = r := by simp [getRec, putRec]

theorem getRec_putRec (p q : Pos) (r : Record) : getRec (putRec s p r) q = if q = p then r else getRec s q := by
  simp [getRec, putRec, Tbl.get_set]

theorem putRec_others (p : Pos) (r : Record) : OtherRecordsKept p s (putRec s p r) := fun q h => by
  simp [getRec_putRec, h]

@[simp] theorem getRec_mapRecs (f : Pos → Record → Record) (p : Pos) : getRec (mapRecs f s) p = f p (getRec s p) := by
  simp [getRec, mapRecs]

theorem getRec_congr {s t : State} (h : t.table = s.table) (p : Pos) : getRec t p = getRec s p := by simp [getRec, h]

theorem anyRec_iff (f : Record → Bool) : anyRec s f = true ↔ ∃ p, f (getRec s p) = true := Tbl.any_iff f _

@[simp] theorem has_recsWith (f : Record → Bool) (p : Pos) : (recsWith s f).has p = f (getRec s p) := by simp [recsWith]

theorem confirmPosition_frame (p : Pos) : OnlyChanges [.table] s (confirmPosition p s).1 := by
  unfold confirmPosition; simp only; split
  · exact putRec_frame s _ _
  · exact .refl _ s

theorem vacate_frame (p : Pos) : OnlyChanges [.table] s (vacate p s) :=
  (putRec_frame s p _).comp (setTable_frame _ _)

@[simp] theorem getRec_vacate (p q : Pos) : getRec (vacate p s) q = if q = p then Record.vacant else getRec s q :=
  getRec_putRec s p q _

theorem retirePosition_frame (p : Pos) : OnlyChanges [.table] s (retirePosition p s).1 := by
  unfold retirePosition; split
  · exact .refl _ s
  · exact vacate_frame s p

/-! ## Measurement and run -/

theorem startMeasurement_frame (point : Point) : OnlyChanges [.table, .engine, .run] s (startMeasurement point s) :=
  ((mapRecs_frame s _).comp (setEngine_frame _ _) (ds := [.table, .engine])).comp (setRun_frame _ _)

theorem stopEngine_frame : OnlyChanges [.engine, .run] s (stopEngine s) := (setEngine_frame s _).comp (setRun_frame _ _)

theorem cutMeasurement_frame : OnlyChanges [.table, .engine, .run] s (cutMeasurement s) := by
  unfold cutMeasurement; split
  · exact (mapRecs_frame s _).comp (stopEngine_frame _)
  · exact (stopEngine_frame s).mono (by decide)

theorem enterMeasuring_frame : OnlyChanges [.table, .engine, .run] s (enterMeasuring s) := by
  unfold enterMeasuring; split
  · exact .refl _ s
  · simp only; split <;> exact (startMeasurement_frame s _).comp (setRun_frame _ _)

theorem settleOver_frame : OnlyChanges [.table, .engine, .run] s (settleOver s) := by
  unfold settleOver; simp only; split
  · exact (setRun_frame s _).mono (by decide)
  · exact (setRun_frame s _).comp (enterMeasuring_frame _)

theorem enterSettling_frame : OnlyChanges [.table, .engine, .run] s (enterSettling s) := by
  unfold enterSettling; split
  · exact .refl _ s
  · simp only; split
    · exact (setRun_frame s _).comp (settleOver_frame _)
    · exact (setRun_frame s _).mono (by decide)

theorem lookAtSource_frame : OnlyChanges [.table, .engine, .run] s (lookAtSource s) :=
  .ite (enterSettling_frame s) ((setRun_frame s _).mono (by decide))

theorem enterSourcing_frame : OnlyChanges [.table, .engine, .run] s (enterSourcing s) := by
  unfold enterSourcing; split
  · exact .refl _ s
  · simp only; split
    · exact (setRun_frame s _).comp (lookAtSource_frame _)
    · exact (setRun_frame s _).mono (by decide)

theorem formVerdicts_frame : OnlyChanges [.table] s (formVerdicts s) := mapRecs_frame s _

theorem completeRun_frame : OnlyChanges [.table, .run, .attn] s (completeRun s) :=
  ((formVerdicts_frame s).comp (setRun_frame _ _) (ds := [.table, .run])).comp (raiseRunEnd_frame _ _)

theorem afterPoint_frame : OnlyChanges [.table, .engine, .run, .attn] s (afterPoint s) := by
  unfold afterPoint; split
  · exact (completeRun_frame s).mono (by decide)
  · split
    · exact (setRun_frame s _).mono (by decide)
    · exact (setRun_frame s _).comp (enterSourcing_frame _)

theorem endPoint_frame : OnlyChanges [.table, .engine, .run, .attn] s (endPoint s) :=
  ((setRun_frame s _).comp (raisePointEnd_frame _ _ _) (ds := [.run, .attn])).comp (afterPoint_frame _)

theorem membersChanged_frame : OnlyChanges [.table, .engine, .run, .attn] s (membersChanged s) := by
  unfold membersChanged; split
  · exact (setRun_frame s _).mono (by decide)
  · exact .ite ((stopEngine_frame s).comp (endPoint_frame _)) (.refl _ s)

theorem breakOff_frame (e : Ending) : OnlyChanges [.engine, .run, .attn] s (breakOff e s) :=
  ((stopEngine_frame s).comp (setRun_frame _ _) (ds := [.engine, .run])).comp (raiseRunEnd_frame _ _)

theorem abortRun_frame : OnlyChanges [.table, .engine, .run, .attn] s (abortRun s) :=
  (mapRecs_frame s _).comp (breakOff_frame _ _)

theorem requestAbort_frame : OnlyChanges [.table, .engine, .run, .attn] s (requestAbort s) :=
  .ite (.refl _ s) (abortRun_frame s)

theorem holdRun_frame : OnlyChanges [.run] s (holdRun s).1 := by
  unfold holdRun; split
  · exact .refl _ s
  · split <;> first | exact .refl _ s | exact setRun_frame s _

theorem resumeRun_frame : OnlyChanges [.table, .engine, .run] s (resumeRun s).1 := by
  unfold resumeRun; split
  · exact .refl _ s
  · split
    · split
      · exact (setRun_frame s _).comp (enterSourcing_frame _)
      · exact enterSourcing_frame s
    · exact .refl _ s

/-! ## Carriage -/

theorem takeStep_frame (m : Move) : OnlyChanges [.closure] s (takeStep m s) := setClosure_frame s _

theorem firePress_frame (target : Nat) : OnlyChanges [.stock, .closure, .attn] s (firePress target s) := by
  unfold firePress; split
  · exact .refl _ s
  · exact ((setStock_frame s _).comp (setClosure_frame _ _) (ds := [.stock, .closure])).comp (noteStockFall_frame _ _)

theorem dwellOver_frame (target : Nat) : OnlyChanges [.stock, .closure, .attn] s (dwellOver target s) := by
  unfold dwellOver; split
  · exact .refl _ s
  · exact .ite ((setClosure_frame s _).comp (raiseFault_frame _ _ _)) (firePress_frame s _)

theorem arrive_frame (m : Move) : OnlyChanges [.stock, .closure, .attn] s (arrive m s) :=
  .ite ((setClosure_frame s _).comp (dwellOver_frame _ _)) ((setClosure_frame s _).mono (by decide))

theorem serve_frame : OnlyChanges [.stock, .closure, .attn] s (serve s) := by
  unfold serve; split
  · exact .ite (.refl _ s) (.ite (arrive_frame s _) ((takeStep_frame s _).mono (by decide)))
  · exact .refl _ s

theorem reachHome_frame : OnlyChanges [.stock, .closure, .attn] s (reachHome s) :=
  (setClosure_frame s _).comp (serve_frame _)

theorem homingStep_frame : OnlyChanges [.closure] s (homingStep s) := setClosure_frame s _

theorem enterHoming_frame : OnlyChanges [.stock, .closure, .attn] s (enterHoming s) :=
  .ite ((setClosure_frame s _).comp (reachHome_frame _)) ((setClosure_frame s _).comp (homingStep_frame _))

theorem closePosition_frame (p : Pos) : OnlyChanges [.table, .stock, .closure, .attn] s (closePosition p s).1 := by
  unfold closePosition; split
  · exact .refl _ s
  · exact ((putRec_frame s p _).comp (setClosure_frame _ _) (ds := [.table, .closure])).comp (serve_frame _)

/-- The press is fired, or there is no tag and the unit stays as it was. -/
theorem firePress_unit (target : Nat) :
    (firePress target s).closure.unit = .pressing target ∨ (firePress target s).closure.unit = s.closure.unit := by
  unfold firePress; split
  · exact .inr rfl
  · refine .inl ?_
    rw [(noteStockFall_frame _ _).2 .closure (by decide)]; rfl

theorem dwellOver_unit_ne_idle (target : Nat) (h : s.closure.unit ≠ .idle) : (dwellOver target s).closure.unit ≠ .idle := by
  unfold dwellOver; split
  · exact h
  · split
    · intro hc; cases hc
    · rcases firePress_unit s target with hf | hf <;> rw [hf]
      · intro hc; cases hc
      · exact h

theorem arrive_unit_ne_idle (m : Move) : (arrive m s).closure.unit ≠ .idle := by
  unfold arrive; simp only; split
  · exact dwellOver_unit_ne_idle _ _ (fun hc => by cases hc)
  · intro hc; cases hc

theorem cancelWaits_iff : cancelWaits s = true ↔ CancelTogether s := by
  unfold cancelWaits CancelTogether CanTake
  split
  · next b more p rest hp hq => simp [hp, hq]
  · next hn =>
    constructor
    · exact fun h => by cases h
    · intro ⟨p, rest, b, more, hq, hp, _⟩
      exact (hn b more p rest hp hq).elim

/-- A CLOSE_CANCEL of the head that comes together with the beginning of service is taken first (R139). -/
theorem serve_of_cancelTogether (h : CancelTogether s) : serve s = s := by
  unfold serve
  split
  · rw [if_pos ((cancelWaits_iff s).2 h)]
  · rfl

/-- Once service has had its chance to begin, no entry waits in IDLE but one whose CLOSE_CANCEL comes next (R139, R148, R150). -/
theorem serve_unit_idle (h : (serve s).closure.unit = .idle) :
    s.closure.unit = .idle ∧ (s.closure.queue = [] ∨ CancelTogether s) ∧ serve s = s := by
  by_cases hc : CancelTogether s
  · rw [serve_of_cancelTogether s hc] at h ⊢
    exact ⟨h, .inr hc, rfl⟩
  · rw [← cancelWaits_iff] at hc
    unfold serve at h ⊢
    split at h
    · exfalso
      rw [if_neg hc] at h
      simp only at h
      split at h
      · exact arrive_unit_ne_idle s _ h
      · cases h
    · next hn =>
      refine ⟨h, .inl ?_, rfl⟩
      cases hq : s.closure.queue with
      | nil => rfl
      | cons p rest => exact (hn p rest h hq).elim

end

/-! ## Timers (R1) -/

theorem isDue_iff (t : Option Timer) : isDue t = true ↔ t.map (·.left) = some 0 := by cases t <;> simp [isDue]

@[simp] theorem isDue_none : isDue none = false := rfl

@[simp] theorem isDue_startTimer (ms : Nat) : isDue (startTimer ms) = decide (ms = 0) := by
  simp only [isDue, startTimer, Option.any_some]; cases ms <;> rfl

@[simp] theorem tickTimer_isNone (t : Option Timer) : (tickTimer t).isNone = t.isNone := by cases t <;> rfl

@[simp] theorem isDue_tickTimer (t : Option Timer) : isDue (tickTimer t) = t.any fun t => decide (t.left ≤ 1) := by
  cases t with
  | none => rfl
  | some t => cases h : t.left with
    | zero => simp [isDue, tickTimer, h]
    | succ n => cases n <;> simp [isDue, tickTimer, h]

theorem takeOverdue_of_not_due {before : Option Timer} (h : isDue before = false) (f : State → State) (s : State) :
    takeOverdue before f s = s := by simp [takeOverdue, h]

/-! ## Expiries of timers that are not due change nothing -/

section
variable {s : State}

theorem latencyExpiry_not_due (h : isDue s.run.latency = false) : latencyExpiry s = s := by simp [latencyExpiry, h]

theorem sourceExpiry_not_due (h : isDue s.run.source = false) : sourceExpiry s = s := by
  unfold sourceExpiry; split <;> simp [h]

theorem settleExpiry_not_due (h : isDue s.run.settle = false) : settleExpiry s = s := by simp [settleExpiry, h]

theorem phaseLowEnd_not_due (h : isDue s.run.phaseLow = false) : phaseLowEnd s = s := by simp [phaseLowEnd, h]

theorem holdOffExpiry_not_due (h : isDue s.run.holdOff = false) : holdOffExpiry s = s := by simp [holdOffExpiry, h]

theorem guardExpiry_not_due (h : isDue s.run.guard = false) : guardExpiry s = s := by simp [guardExpiry, h]

theorem presenceExpiry_not_due (h : isDue s.front.window = false) : presenceExpiry s = s := by simp [presenceExpiry, h]

theorem pointExpiry_not_due (h : isDue s.engine.timer = false) : pointExpiry s = s := by simp [pointExpiry, h]

theorem stepExpiry_not_due (h : isDue s.closure.stepTimer = false) : stepExpiry s = s := by simp [stepExpiry, h]

theorem dwellExpiry_not_due (h : isDue s.closure.dwellTimer = false) : dwellExpiry s = s := by simp [dwellExpiry, h]

theorem pressExpiry_not_due (h : isDue s.closure.pressTimer = false) : pressExpiry s = s := by simp [pressExpiry, h]

theorem modeExpiry_not_due (h : isDue s.panel.modeTimer = false) : modeExpiry s = s := by simp [modeExpiry, h]

theorem flashExpiry_not_due {slot : Pos} (h : isDue (s.panel.flashes.get slot) = false) : flashExpiry slot s = s := by
  simp [flashExpiry, h]

theorem lampTestExpiry_not_due (h : isDue s.panel.lampTest = false) : lampTestExpiry s = s := by simp [lampTestExpiry, h]

end

/-! ## Characters (R179) -/

theorem Samples.majority_iff (x : Samples) : x.majority = true ↔
    x.first = true ∧ x.second = true ∨ x.first = true ∧ x.third = true ∨ x.second = true ∧ x.third = true := by
  simp [Samples.majority, or_assoc]

theorem characterBits_length (mark : Bool) (value : Byte) : (characterBits mark value).length = 11 := by simp [characterBits]

end Sys2Proof.Machine
end

