-- ==== Sys2Proof/WellFormed.lean ====
section
/-! DEFINITION. Which commands are well formed: the checks the operand types do not already make. -/

namespace Sys2Proof

/-- The setting ids that have a row of their own in the table (R44, R51, R53, R57, R88, R158, R195). -/
def ownRowIds : List Nat := [0x01, 0x02, 0x03, 0x04, 0x12, 0x20, 0x24, 0x25, 0x26, 0x40]

/-- A command is well formed when a frame can carry its serial (R181, R199: at most 47 parameter bytes, of which MOUNT's fixed
part takes 8 and FIND's 1), and when the row SET names a setting that has no row of its own. -/
def Instr.wellFormed : Instr → Bool
  | .mount _ _ _ _ _ serial => decide (8 + serial.length < Config.frameMax)
  | .find _ serial => decide (1 + serial.length < Config.frameMax)
  | .set _ id _ => !ownRowIds.contains id.toNat
  | _ => true

end Sys2Proof
end

