-- ==== Sys2Proof/Tests/Slice0.lean ====
section
/-! SUPPORT. Small tests: the well-formedness checks, single steps against values of the spec, and for each statement with hypotheses
a state and operands that meet them, at the ends of their ranges. -/

set_option Elab.async false

namespace Sys2Proof.Tests

open Sys2Proof Sys2Proof.Machine

/-! ## Well-formedness -/

theorem test_wellFormed_refuses_mount_with_a_serial_no_frame_carries :
    (Instr.mount .addressed 0 1 0 0 (List.replicate 39 0x41)).wellFormed = true ∧
      (Instr.mount .addressed 0 1 0 0 (List.replicate 40 0x41)).wellFormed = false := by decide

theorem test_wellFormed_refuses_find_with_a_serial_no_frame_carries :
    (Instr.find .addressed (List.replicate 46 0x41)).wellFormed = true ∧
      (Instr.find .addressed (List.replicate 47 0x41)).wellFormed = false := by decide

theorem test_wellFormed_refuses_set_of_a_setting_with_its_own_row :
    (Instr.set .addressed 0x10 5).wellFormed = true ∧ (Instr.set .addressed 0x12 5).wellFormed = false := by decide

/-! ## Small states -/

/-- A part at station 5, right after reset, that looks for start bits. -/
def part (role : Role) : State :=
  let s := State.initial ⟨5, role, 0⟩ []
  s.setLink { s.link with rxWait := .none }

/-- A meter of ratio 1.0, class 2. -/
def meter : Identity := ⟨[0x41], 65536, .rising, 2⟩

/-- A record in a state, with what the state calls for. -/
def recordIn (st : PosState) : Record where
  state := st
  identity := if st = .vacant then none else some meter
  results := []
  context := if st = .active then some freshContext else none
  closure := if st = .closed then some ⟨7, false⟩ else none
  spoiled := none

/-- A part with one record at position 47. -/
def withRecord (r : Record) : State := putRec (part .solo) 47 r

/-- An ERROR point of one edge and one repetition, 4 seconds. -/
def errorPoint : Point := ⟨612, 0, false, .error 1 1 4 (Tbl.fill 4 (5000, 1000))⟩

/-- A run in a state, of one member at position 47, at the only point. -/
def running (role : Role) (st : RunState) : State :=
  let s := { putRec (part role) 47 { recordIn .active with results := [notRunEntry .error] } with plan := [errorPoint] }
  let s := s.setRun { s.run with state := st, members := PosSet.single 47, load := 612 }
  if st = .measuring then s.setEngine ⟨some 0, some ⟨4000, 4000⟩⟩ else s

/-- A closure unit in a state, with position 47 queued and a roll of two tags. -/
def closing (u : UnitState) : State :=
  let s := putRec (part .solo) 47 (recordIn .closing)
  let s := s.setStock (s.stock.set 0 (.loaded 1 2 1))
  s.setClosure { s.closure with unit := u, queue := [47] }

/-- The part with one block of the link replaced. -/
def receiving (r : Receiver) : State := (part .solo).setLink { (part .solo).link with receiver := r }

/-- What a request row is answered with. -/
def replyOf (c : Instr) (s : State) : Option Reply :=
  match exec c s with
  | .next t => t.link.response
  | _ => none

/-! ## Single steps -/

theorem test_identify : replyOf (.identify .addressed) (part .master) =
    some ⟨.ok, [0x48, 0x44, 0x50, 0x12, 0xD4, 0x01, 0x05, 0x01, 0x30, 0x10, 0x04]⟩ := by decide +kernel

theorem test_get_of_travel : replyOf (.get .addressed 0x26) (part .solo) = some ⟨.ok, [0x26, 0, 0, 0x4C, 0x2C]⟩ := by
  decide +kernel

theorem test_identify_frame_has_sum_255 : (Request.identify).frame = [0x01, 0x01, 0xFD] := by decide

theorem test_ack_tag_frame_of_the_manual :
    (Request.ackTag 3 7100).frame = [0x06, 0x28, 0x03, 0x00, 0x00, 0x1B, 0xBC, 0xF7] := by decide

theorem test_press_timeout_answer_of_the_manual :
    txCharacters { (part .solo) with
      straps := ⟨2, .solo, 0⟩
      link := { (part .solo).link with
        receiver := .responding, response := some ⟨.ok, [6, 0x10, 0, 0, 0, 0, 0, 0x20]⟩, txen := true } } =
      [(true, 0x82), (false, 0x09), (false, 0x00), (false, 0x06), (false, 0x10), (false, 0), (false, 0), (false, 0), (false, 0),
        (false, 0), (false, 0x20), (false, 0xC0)] := by decide +kernel

theorem test_rounding_takes_halves_away_from_zero :
    roundDiv 1 2 = 1 ∧ roundDiv (-1) 2 = -1 ∧ roundDiv 3 2 = 2 ∧ roundDiv 1 3 = 0 := by decide

theorem test_errors_of_the_worked_session : repetitionError 10 131072000 20030 = -1498 ∧ repetitionError 10 131072000 20031 = -1548 ∧
    repetitionError 10 131072000 20029 = -1448 ∧ meanOf ⟨.done, 0, 0, 1801, some (450, 751), 3, 0, false⟩ = 600 := by decide

theorem test_saturation_is_tested_before_rounding :
    saturates 2 65536 1 = true ∧ repetitionError 2 65536 1 = 999999 ∧ saturates 1 65536 1 = false ∧
      repetitionError 1 65536 1 = 0 := by decide

theorem test_press_location_of_the_last_position : pressLocation Settings.default 47 = 19000 := by decide

theorem test_mirrored_bench_swaps_ends : slotOf .mirrored 0 = 47 ∧ slotOf .mirrored 47 = 0 ∧ slotOf .normal 47 = 47 := by
  decide

theorem test_breathing_lamp : intensity .breathing 204 999 = 203 ∧ intensity .breathing 204 1000 = 204 ∧
    intensity .breathing 204 1999 = 0 := by decide

/-! ## The hypotheses of the statements can be met -/

theorem test_step_on_an_empty_queue : State.reset.pending = [] := rfl

theorem test_timers_not_due_and_a_level_is_confirmed :
    ¬Due State.reset.run.latency ∧ ¬Due State.reset.closure.pressTimer ∧ ¬Due (some ⟨2000, 1⟩) ∧ Due (some ⟨2000, 0⟩) ∧
      ∃ s : State, s.run.srcReady.seeded = true ∧ s.run.srcReady.level = true ∧ s.closure.home.seeded = true ∧
        s.closure.home.level = false :=
  ⟨by decide, by decide, by decide, by decide, let s := part .solo
    { s with run := { s.run with srcReady := confirmed true }, closure := { s.closure with home := confirmed false } },
    rfl, rfl, rfl, rfl⟩

theorem test_every_role_is_strapped : Role.ofStraps 0 = .solo ∧ Role.ofStraps 1 = .master ∧ Role.ofStraps 2 = .slave ∧
    Role.ofStraps 3 = .solo := by decide

theorem test_receiver_can_take_and_cannot : (receiving .responding).link.receiver = .responding ∧ CanTake (part .solo) ∧
    Request.code .benchClear ∈ [0x02, 0x04, 0x30, 0x31, 0x32, 0x34, 0x41, 0x42, 0x43] ∧
    Request.code .identify ∉ [0x02, 0x04, 0x30, 0x31, 0x32, 0x34, 0x41, 0x42, 0x43] := by
  refine ⟨rfl, ?_, ?_, ?_⟩ <;> decide

theorem test_longest_frame_is_taken : CanTake (part .solo) ∧ (part .solo).link.rxWait = .none ∧
    (Request.find (List.replicate 46 0x41)).params.length = 47 ∧ (5 : Byte) = (part .solo).straps.station.setWidth 8 := by
  refine ⟨?_, rfl, ?_, ?_⟩ <;> decide

theorem test_address_characters : (State.reset).link.rxWait ≠ .none ∧ CanTake (part .solo) ∧ (part .solo).link.rxWait = .none := by
  refine ⟨?_, ?_, rfl⟩ <;> decide

theorem test_data_characters_at_the_ends_of_len :
    (receiving (.listening .addressed [])).link.receiver = .listening .addressed [] ∧
      (receiving (.listening .addressed [48])).link.receiver = .listening .addressed ((48 : Byte) :: []) ∧
      ([0x01, 0x01, 0xFD] : List Byte).foldl (· + ·) 0 = 255 ∧ ([0x01, 0x01, 0xFC] : List Byte).foldl (· + ·) 0 ≠ 255 ∧
      parseRequest 0x05 [] = .unknown ∧ parseRequest 0x2E [] = .badLength ∧ parseRequest 0x01 [] = .request .identify := by
  refine ⟨rfl, rfl, ?_, ?_, rfl, rfl, rfl⟩ <;> decide

theorem test_gap_timer_runs_in_listening : ∃ s : State, s.link.receiver = .listening .broadcast [] ∧ s.link.gap = true ∧ CanTake s :=
  ⟨(part .solo).setLink { (part .solo).link with receiver := .listening .broadcast [], gap := true }, rfl, rfl, by decide⟩

theorem test_quiet_timer_runs_with_a_response : ∃ s : State, s.link.quiet = true ∧ s.link.response = some ⟨.ok, []⟩ :=
  ⟨(part .solo).setLink { (part .solo).link with quiet := true, response := some ⟨.ok, []⟩ }, rfl, rfl⟩

theorem test_set_open_and_closed : SetOpen 0x01 (part .solo) ∧ ¬SetOpen 0x01 (withRecord (recordIn .mounted)) ∧
    SetOpen 0x03 (part .solo) ∧ ¬SetOpen 0x03 (running .solo .measuring) ∧ (0x40, 0, 63, 63) ∈ settingTable := by
  refine ⟨⟨fun _ => ⟨?_, .inl rfl⟩, ?_, ?_⟩, fun h => ?_, ⟨?_, fun _ => rfl, ?_⟩, fun h => ?_, ?_⟩
  · decide +kernel
  · simp
  · simp [GeometryId]
  · exact absurd ((h.1 rfl).1 47) (by decide +kernel)
  · simp
  · simp [GeometryId]
  · exact absurd (h.2.1 rfl) (by decide +kernel)
  · decide

theorem test_reach_is_kept_and_lost : GeometryId 0x26 ∧ SetOpen 0x26 (closing .fault) ∧ ReachKept Settings.default (closing .fault) ∧
    ¬ReachKept { Settings.default with travel := 18999 } (closing .fault) := by
  refine ⟨by simp [GeometryId], ⟨by simp, by simp, fun _ => .inr (.inl rfl)⟩, ?_, ?_⟩
  · intro p hp
    have : p = 47 := List.mem_singleton.mp hp
    subst this; decide
  · intro h
    exact absurd (h 47 (List.mem_singleton.mpr rfl)) (by decide)

theorem test_bench_clear_busy_unreported_and_quiet :
    (running .solo .held).run.state ≠ .idle ∧ UnitBusy (closing .homing).closure.unit ∧ (closing .fault).closure.queue ≠ [] ∧
      (getRec (withRecord (recordIn .closed)) 47).closure = some ⟨7, false⟩ ∧ (part .solo).run.state = .idle ∧
      (part .solo).closure.unit = .unhomed ∧ ∀ p, (getRec (part .solo) p).state = .vacant := by
  refine ⟨by decide +kernel, .inl rfl, by decide +kernel, by decide +kernel, rfl, rfl, by decide +kernel⟩

theorem test_a_class_calls : ∃ s : State, calls s 1 ∧ ¬calls s 2 ∧ CanTake s :=
  ⟨raiseStockLow 3 (part .solo), ⟨rfl, by decide, fun o h => by simp [part, State.initial, raiseStockLow, putAttn, driveAtn,
    Attention.clear, State.setAttn, State.setLink] at h⟩, fun h => Bool.noConfusion (show false = true from h.1), by decide⟩

theorem test_the_highest_level_calls : calls (raiseFault 0x40 0 (part .solo)) 6 :=
  ⟨rfl, by decide, fun o h => by
    simp [part, State.initial, raiseFault, putAttn, driveAtn, Attention.clear, State.setAttn, State.setLink] at h⟩

theorem test_attend_done_levels : ∃ s : State, s.attn.inService.getLsbD (6 - 1) = true ∧ s.attn.inService.getLsbD (1 - 1) = false ∧
    CanTake s :=
  ⟨(part .solo).setAttn { (part .solo).attn with inService := 0x20 }, by decide, by decide, by decide⟩

theorem test_records_in_every_state : ∀ st ∈ [PosState.vacant, .mounted, .ready, .active, .passed, .failed, .closing, .closed],
    (getRec (withRecord (recordIn st)) 47).state = st := by decide +kernel

theorem test_serials_at_their_ends : serialOk [] = false ∧ serialOk (List.replicate 16 0x20) = true ∧
    serialOk (List.replicate 17 0x41) = false ∧ serialOk [0x7E] = true ∧ serialOk [0x7F] = false ∧ serialOk [0x1F] = false := by
  decide

theorem test_positions_at_their_ends : posOfByte 47 = some 47 ∧ posOfByte 48 = none ∧ posOfByte 0 = some 0 := by decide

theorem test_a_serial_is_found_twice_and_once : ∃ s : State, (47, [0x41]) ∈ s.table.index ∧ ∀ q, (q, [0x42]) ∉ s.table.index :=
  ⟨(part .solo).setTable { (part .solo).table with index := [(47, [0x41])] }, by simp [State.setTable], by simp [State.setTable]⟩

theorem test_spoiled_and_acknowledged_tags :
    (getRec (withRecord { recordIn .passed with spoiled := some 9 }) 47).spoiled = some 9 ∧
      (getRec (withRecord { recordIn .closed with closure := some ⟨7, true⟩ }) 47).closure = some ⟨7, true⟩ ∧
      (getRec (withRecord (recordIn .active)) 47).context = some freshContext := by decide +kernel

theorem test_last_member_is_excluded : (getRec (running .solo .measuring) 47).state = .active ∧
    (running .solo .measuring).run.members.erase 47 = 0 := by decide +kernel

theorem test_cursor_at_its_end_and_edit_mode : (part .solo).link.edit = false ∧
    ∃ s : State, s.link.cursor = 48 ∧ s.link.edit = true ∧ CanTake s :=
  ⟨rfl, (part .solo).setLink { (part .solo).link with cursor := 48, edit := true }, rfl, rfl, by decide⟩

theorem test_plan_edits_meet_each_check : (running .solo .held).run.state ≠ .idle ∧
    (getRec (withRecord (recordIn .passed)) 47).state = .passed ∧ pointOf zeroForm = none ∧
    pointOf { zeroForm with method := 2, creepWindow := 3600, allowed := 3, load := 4095, settle := 600000 } ≠ none ∧
    pointOf { zeroForm with method := 2, creepWindow := 3600, allowed := 4 } = none := by decide +kernel

theorem test_a_plan_is_full_and_has_a_point : ∃ s t : State, s.plan.length = 16 ∧ t.plan[0]? = some errorPoint ∧ CanTake t :=
  ⟨(part .solo).setPlan (List.replicate 16 errorPoint), running .solo .held, by decide, rfl, by decide⟩

theorem test_error_form_at_its_ends :
    pointOf { zeroForm with n := 1000, repetitions := 8, timeout := 3600, limits := Tbl.fill 4 (999999, 999999) } ≠ none ∧
      pointOf { zeroForm with n := 1001, repetitions := 8, timeout := 3600 } = none ∧
      pointOf { zeroForm with method := 1, startWindow := 1, required := 3 } ≠ none := by decide +kernel

theorem test_run_start_meets_each_check :
    (running .solo .held).run.state ≠ .idle ∧ (part .solo).plan = [] ∧
      ∃ s : State, s.run.state = .idle ∧ s.plan = [errorPoint] ∧ (getRec s 47).state = .ready :=
  ⟨by decide +kernel, rfl, (withRecord (recordIn .ready)).setPlan [errorPoint], by decide +kernel, rfl, by decide +kernel⟩

theorem test_run_states_and_roles : (running .slave .following).straps.role = .slave ∧
    (running .solo (.sourcing .latency)).run.state = .sourcing .latency ∧ (running .master .settling).run.state = .settling ∧
    (running .solo .held).run.measured = false := by decide +kernel

theorem test_a_run_has_its_point : (running .solo .settling).plan[(running .solo .settling).run.index]? = some errorPoint ∧
    errorPoint.body = .error 1 1 4 (Tbl.fill 4 (5000, 1000)) := by decide +kernel

theorem test_source_timers_are_due : ∃ s : State, Due s.run.latency ∧ Due s.run.source ∧ s.run.state = .sourcing .latency ∧
    s.run.srcReady.seeded = false :=
  let s := running .solo (.sourcing .latency)
  ⟨s.setRun { s.run with latency := some ⟨100, 0⟩, source := some ⟨30000, 0⟩ }, by decide, by decide, rfl, rfl⟩

theorem test_settle_and_low_phase_are_due : ∃ s : State, Due s.run.settle ∧ s.run.state = .settling ∧ Due s.run.phaseLow ∧
    s.straps.role = .master :=
  let s := running .master .settling
  ⟨s.setRun { s.run with settle := some ⟨5, 0⟩, phaseLow := some ⟨3, 0⟩ }, by decide, rfl, by decide, rfl⟩

theorem test_guard_and_hold_off_are_due : ∃ s : State, Due s.run.guard ∧ Due s.run.holdOff ∧ s.run.state = .measuring ∧
    s.straps.role = .master :=
  let s := running .master .measuring
  ⟨s.setRun { s.run with guard := some ⟨5000, 0⟩, holdOff := some ⟨10, 0⟩ }, by decide, by decide, rfl, rfl⟩

theorem test_point_end_holds : ∃ s : State, s.run.state = .measuring ∧ s.run.done = s.run.members ∧ s.run.holdOff = none ∧
    s.run.doneLine.level = true ∧ s.plan.length ≤ s.run.index + 1 :=
  let s := running .master .measuring
  ⟨s.setRun { s.run with done := PosSet.single 47, doneLine := confirmed true }, rfl, rfl, rfl, rfl, by decide⟩

theorem test_a_slave_measures : (running .slave .measuring).run.state = .measuring ∧
    (running .slave .measuring).run.phaseLine.seeded = false ∧ (getRec (running .slave .measuring) 47).context = some freshContext := by
  decide +kernel

theorem test_roll_numbers_at_their_ends : (∀ i, slotOk ((closing .idle).stock.get i)) ∧ (closing .idle).stock.get 0 = .loaded 1 2 1 ∧
    (closing .idle).stock.get 3 = .empty ∧ undrawnIn 2 ((closing .idle).stock.get 0) ∧ ¬undrawnIn 3 ((closing .idle).stock.get 0) ∧
    isHeld (withRecord (recordIn .closed)) 7 := by
  refine ⟨fun i => ?_, rfl, rfl, ⟨by decide, by decide⟩, fun h => absurd h.2 (by decide), .inl ⟨47, .inl ⟨⟨7, false⟩, ?_, rfl⟩⟩⟩
  · fin_cases i
    · exact ⟨by decide, by decide, by decide, by decide⟩
    all_goals trivial
  · decide +kernel

theorem test_an_exhausted_slot_is_dropped : ∃ s : State, s.stock.get 3 = .exhausted 1 2 ∧ CanTake s :=
  ⟨(part .solo).setStock ((part .solo).stock.set 3 (.exhausted 1 2)), rfl, by decide⟩

theorem test_a_drop_may_be_refused : (closing .idle).stock.get 0 = .loaded 1 2 1 ∧
    remaining (closing .idle).stock - (2 + 1 - 1) < reservations (closing .idle).closure := by decide +kernel

theorem test_close_meets_each_check : remaining (part .solo).stock ≤ reservations (part .solo).closure ∧
    reservations (closing .idle).closure < remaining (closing .idle).stock ∧
    (part .solo).settings.homeOffset + 47 * (part .solo).settings.pitch ≤ (part .solo).settings.travel := by decide +kernel

theorem test_an_entry_is_served_and_waits : (closing (.pressing 19000)).closure.queue.head? = some 47 ∧
    (closing .fault).closure.unit = .fault ∧ (47 : Pos) ∈ (closing .fault).closure.queue ∧
    RecordLaw (getRec (closing .fault) 47) := by
  refine ⟨by decide +kernel, rfl, by decide +kernel, ?_⟩
  have : getRec (closing .fault) 47 = recordIn .closing := by decide +kernel
  rw [this]
  simp [RecordLaw, recordIn]

theorem test_a_move_steps_and_ends : ∃ s : State, Due s.closure.stepTimer ∧
    s.closure.unit = .moving ⟨.stepping, 19000, 19000, 19000, true, 16, 16⟩ ∧ s.closure.queue = [47] :=
  let s := closing (.moving ⟨.stepping, 19000, 19000, 19000, true, 16, 16⟩)
  ⟨s.setClosure { s.closure with stepTimer := some ⟨8, 0⟩ }, by decide, rfl, rfl⟩

theorem test_homing_at_its_limit : ∃ s : State, s.closure.unit = .homing ∧ Due s.closure.stepTimer ∧
    s.closure.tally = s.settings.travel + 2 * s.settings.pitch ∧ s.closure.home.seeded = false :=
  let s := closing .homing
  ⟨s.setClosure { s.closure with stepTimer := some ⟨8, 0⟩, tally := 20300 }, rfl, by decide, rfl, rfl⟩

theorem test_the_press_is_fired_and_ends : ∃ s t : State,
    (s.closure.queue = [47] ∧ s.closure.unit = .moving ⟨.dwell, 19000, 0, 0, false, 0, 0⟩ ∧ Due s.closure.dwellTimer ∧
      s.closure.pressDone.level = false ∧ s.stock.get 0 = .loaded 1 2 1 ∧ slotOk (s.stock.get 0)) ∧
    t.closure.queue = [47] ∧ t.closure.unit = .pressing 19000 ∧ t.closure.tagInPress = some 1 ∧ Due t.closure.pressTimer ∧
      t.closure.pressDone.seeded = false :=
  let s := closing (.moving ⟨.dwell, 19000, 0, 0, false, 0, 0⟩)
  let t := closing (.pressing 19000)
  ⟨s.setClosure { s.closure with dwellTimer := some ⟨50, 0⟩ },
    t.setClosure { t.closure with tagInPress := some 1, pressTimer := some ⟨2000, 0⟩ },
    ⟨rfl, rfl, by decide, rfl, rfl, ⟨by decide, by decide, by decide, by decide⟩⟩, rfl, rfl, rfl, by decide, rfl⟩

theorem test_an_error_saturates_both_ways : repetitionError 2 65536 1 = 999999 ∧ repetitionError 1 1 1000000 = -999999 ∧
    ∃ c : Context, 1 ≤ c.repetitions ∧ c.sum.natAbs = 1 * c.repetitions + 1 ∧ 1 < c.repetitions ∧ c.range = some (-2, -1) :=
  ⟨by decide, by decide, ⟨.gateOpen, 0, 0, -3, some (-2, -1), 2, 0, false⟩, by decide, by decide, by decide, rfl⟩

theorem test_a_result_without_repetitions : freshContext.repetitions = 0 ∧
    errorResult .noPulse freshContext = ⟨.noPulse, .error, 0, none, none, false⟩ := by decide

theorem test_an_edge_reaches_a_member : (getRec (running .solo .measuring) 47).identity = some meter ∧
    (running .solo .measuring).engine.point = some (running .solo .measuring).run.index ∧
    (getRec (running .solo .measuring) 47).context = some freshContext ∧ freshContext.phase ≠ .done ∧
    (getRec (part .solo) 0).identity = none := by decide +kernel

theorem test_the_window_is_due_with_an_open_gate : ∃ s : State, Due s.front.window ∧ s.engine.point ≠ none ∧
    (getRec s 47).context = some { freshContext with phase := .gateOpen } ∧ (getRec s 47).state = .active :=
  let s := putRec (running .solo .measuring) 47 { recordIn .active with context := some { freshContext with phase := .gateOpen } }
  ⟨s.setFront { s.front with window := some ⟨100, 0⟩, present := true }, by decide, by decide +kernel,
    by decide +kernel, by decide +kernel⟩

theorem test_the_point_timer_is_due : ∃ s : State, Due s.engine.timer ∧ s.engine.point = some s.run.index ∧
    s.plan[s.run.index]? = some errorPoint :=
  ⟨(running .solo .measuring).setEngine ⟨some 0, some ⟨4000, 0⟩⟩, by decide, rfl, rfl⟩

theorem test_two_slots_have_edges : ∃ s : State, Confirming (s.front.filters.get 0) true ∧ Confirming (s.front.filters.get 47) true ∧
    (getRec s 0).state = .active ∧ (getRec s 47).state = .active ∧ ¬Confirming (s.front.filters.get 1) true ∧
    [(0 : Pos), 47].Pairwise (· < ·) :=
  let s := putRec (running .solo .measuring) 0 (recordIn .active)
  ⟨s.setFront { s.front with filters := (s.front.filters.set 47 ⟨false, true, true⟩).set 0 ⟨false, true, true⟩ },
    ⟨by decide +kernel, by decide +kernel, by decide +kernel⟩, ⟨by decide +kernel, by decide +kernel, by decide +kernel⟩,
    by decide +kernel, by decide +kernel, fun h => absurd h.1 (by decide +kernel), by decide⟩

theorem test_all_keys_up_and_one_down : AllKeysUp (part .solo) ∧
    ∃ s : State, (s.panel.keys.get 55).level = true ∧ s.panel.scanPresses = BitVec.twoPow 56 (55 : Fin 56).val ∧
      ∀ j, j ≠ (55 : Fin 56) → (s.panel.keys.get j).level = false :=
  ⟨by unfold AllKeysUp; decide +kernel, (part .solo).setPanel { (part .solo).panel with
      keys := (part .solo).panel.keys.set 55 (confirmed true), scanPresses := BitVec.twoPow 56 55 },
    by decide +kernel, rfl, by decide +kernel⟩

/-- A mode in force, a flash and a lamp test, their timers due. -/
def lapsing : State :=
  (part .solo).setPanel { (part .solo).panel with
    mode := .load, modeTimer := some ⟨10000, 0⟩, lampTest := some ⟨3000, 0⟩
    flashes := (part .solo).panel.flashes.set 47 (some ⟨1000, 0⟩) }

theorem test_panel_timers_are_due : Due lapsing.panel.modeTimer ∧ lapsing.panel.mode = .load ∧ Due lapsing.panel.lampTest ∧
    Due (lapsing.panel.flashes.get 47) ∧ ¬Due (lapsing.panel.flashes.get 0) := by decide +kernel

theorem test_a_tick_at_the_ends_of_its_clock_and_scan : ∃ s : State, s.panel.clock = 1999 ∧ s.panel.clock < 2000 ∧ s.panel.column = 7 ∧
    s.run.srcReady.seeded = false ∧ s.closure.home.seeded = true ∧ s.closure.unit = .fault ∧ s.closure.queue = [47] :=
  let s := closing .fault
  ⟨{ s with
      closure := { s.closure with home := confirmed false }
      panel := { s.panel with clock := 1999, column := 7 } }, rfl, by decide, rfl, rfl, rfl, rfl, rfl⟩

theorem test_phase_lines_at_the_ends_of_the_patterns : ∃ s t : State,
    (s.closure.energised = true ∧ s.settings.excitation = .full ∧ s.closure.exIndex = 3) ∧
    (t.closure.energised = true ∧ t.settings.excitation = .half ∧ t.closure.exIndex = 7) ∧ State.reset.closure.energised = false :=
  let t := (closing .idle).setClosure { (closing .idle).closure with energised := true, exIndex := 7 }
  ⟨(t.setClosure { t.closure with exIndex := 3 }).setSettings { t.settings with excitation := .full }, t,
    ⟨rfl, rfl, rfl⟩, ⟨rfl, rfl, rfl⟩, rfl⟩

/-! ## Events that come together, and lengths of timers -/

/-- The end state of some commands, as it is if one of them stopped. -/
def after (cs : List Instr) (s : State) : State :=
  match execAll cs s with
  | .next t => t
  | _ => s

/-- A press cycle at position 47 with position 46 queued behind it. -/
def pressing : State :=
  let s := putRec (closing (.pressing 19000)) 46 (recordIn .closing)
  s.setClosure { s.closure with
    queue := [47, 46], tagInPress := some 1, press := true, energised := true, pressTimer := some ⟨2000, 2000⟩ }

theorem test_cancel_of_the_second_entry_with_the_press_completion :
    let t := after [.closeCancel .addressed 46, .pressDoneRise] pressing
    (getRec t 47).state = .closed ∧ (getRec t 46).state = .passed ∧ t.closure.queue = [] ∧ t.closure.unit = .idle := by decide +kernel

/-- The state after the waiting commands have been taken, one a step. -/
def stepped : Nat → State → State
  | 0, s => s
  | n + 1, s =>
    match step s with
    | .next t => stepped n t
    | _ => s

theorem test_press_completion_and_cancel_of_the_second_entry_in_either_order :
    let s := { pressing with pending := [.pressDoneRise, .closeCancel .addressed 46] }
    let t := { pressing with pending := [.closeCancel .addressed 46, .pressDoneRise] }
    stepped 2 s = stepped 2 t ∧ (stepped 2 s).link.response = some ⟨.ok, []⟩ ∧ (getRec (stepped 2 s) 47).state = .closed ∧
      (getRec (stepped 2 s) 46).state = .passed ∧ (stepped 2 s).closure.queue = [] := by decide +kernel

theorem test_close_and_cancel_of_the_only_entry :
    let idle := putRec (closing .idle) 47 (recordIn .passed)
    let idle := idle.setClosure { idle.closure with queue := [] }
    let s := { idle with pending := [.close .addressed 47, .closeCancel .addressed 47] }
    (stepped 1 s).link.response = some ⟨.ok, []⟩ ∧ (stepped 1 s).closure.queue = [47] ∧ (stepped 1 s).closure.unit = .idle ∧
      (stepped 2 s).closure = idle.closure ∧ (getRec (stepped 2 s) 47).state = .passed ∧
      (after [.close .addressed 47] idle).closure.unit ≠ .idle := by decide +kernel

theorem test_a_cancel_waits_with_the_beginning_of_service :
    CancelTogether { closing .idle with pending := [.closeCancel .addressed 47] } ∧ ¬CancelTogether (closing .idle) :=
  ⟨⟨47, [], 47, [], rfl, rfl, rfl, by decide⟩, fun ⟨_, _, _, _, _, h, _⟩ => by cases h⟩

theorem test_a_key_held_across_a_clear_does_not_act :
    let down := (part .solo).setPanel { (part .solo).panel with
      keys := (part .solo).panel.keys.set 48 (confirmed true), scanPresses := BitVec.twoPow 56 48 }
    let cleared := after [.benchClear .addressed] down
    cleared.panel.scanBarred = true ∧ (endScan cleared).panel.mode = .none ∧ (endScan cleared).panel.scanBarred = false ∧
      (endScan down).panel.mode = .load ∧ (after [.keyRelease 48, .loadKey] (endScan cleared)).panel.mode = .load := by decide +kernel

theorem test_service_begins_with_the_completion_and_a_later_cancel_is_busy :
    let s := after [.pressDoneRise] pressing
    pressing.closure.queue = [47, 46] ∧ pressing.closure.unit = .pressing 19000 ∧ pressing.closure.tagInPress = some 1 ∧
      pressing.closure.pressDone.seeded = false ∧ pressLocation pressing.settings 46 ≠ pressing.closure.stepCount ∧
      (moveReport s.closure.unit).2.1 = 18600 ∧ s.closure.queue = [46] ∧ replyOf (.closeCancel .addressed 46) s = some ⟨.busy, []⟩ := by
  decide +kernel

theorem test_home_is_taken_before_press_done_is_seeded :
    let s := closing .homing
    let s := s.setClosure { s.closure with home := ⟨false, true, true⟩, tally := 1 }
    let s := s.setSettings { s.settings with homeOffset := 0, orient := .mirrored, pressDwell := 0 }
    s.closure.pressDone.seeded = false ∧ s.panel.clock < 2000 ∧
      (after [.millisecondTick false true true false false 0] s).closure.unit.isPressing = true ∧
      (after [.millisecondTick false true true false false 0] s).closure.pressDone = ⟨true, false, true⟩ := by decide +kernel

theorem test_press_timer_expires_when_it_is_due :
    let s := pressing.setClosure { pressing.closure with pressTimer := some ⟨2000, 1⟩ }
    let tick := Instr.millisecondTick false false false false false 0
    (after [.pressTimerExpiry] s).closure.unit = .pressing 19000 ∧ (after [tick] s).closure.unit = .pressing 19000 ∧
      (after [tick, .pressTimerExpiry] s).closure.unit = .fault ∧ (after [tick, tick] s).closure.unit = .fault := by decide +kernel

theorem test_a_press_before_the_expiry_keeps_the_mode : (after [.closeKey, .modeTimerExpiry] lapsing).panel.mode = .close ∧
    (after [.modeTimerExpiry, .closeKey] lapsing).panel.mode = .close ∧
    (after [.modeTimerExpiry] lapsing).panel.mode = .none := by decide +kernel

theorem test_travel_of_the_value_held_keeps_the_fault :
    let s := closing .fault
    let s := s.setClosure { s.closure with queue := [], stepCount := 19501 }
    (after [.setTravel .addressed 19500] s).closure.unit = .fault ∧
      (after [.setTravel .addressed 19499] s).closure.unit = .unhomed := by decide +kernel

/-! ## Characters by their bits -/

/-- The samples of a character, one of the three of every bit read wrong. -/
def noisy (bits : List Bool) : Tbl 11 Samples :=
  Tbl.ofFn fun i => let level := bits.getD i.val true; ⟨level, !level, level⟩

theorem test_samples_spell_a_character :
    sampledCommands (noisy (characterBits true 0x7F)) = [.startBitAccepted, .addressCharacter 0x7F] ∧
    sampledCommands (noisy (characterBits false 0xA1)) = [.startBitAccepted, .dataCharacter 0xA1] ∧
    sampledCommands (noisy (false :: List.replicate 10 false)) = [.startBitAccepted, .framingError] ∧
    sampledCommands (noisy (List.replicate 11 true)) = [] := by decide +kernel

theorem test_bits_of_a_character : characterBits true 0x85 = [false, true, false, true, false, false, false, false, true, true, true] := by
  decide

/-- A SOLO part with a mounted, indexed meter, and a command waiting. -/
def keeping : State :=
  { withRecord (recordIn .mounted) with table := ⟨(withRecord (recordIn .mounted)).table.records, [(47, [0x41])]⟩, pending := [.attend .addressed] }

theorem test_a_kept_bench_steps : BenchLaw keeping ∧ IndexLaw keeping ∧ ∃ t, step keeping = .next t := by
  have hr : ∀ p, getRec keeping p = if p = 47 then recordIn .mounted else Record.vacant := by decide +kernel
  refine ⟨⟨fun p => ?_, ⟨fun p => ?_, ?_, ?_⟩, ?_⟩, ⟨?_, ?_⟩, ⟨_, rfl⟩⟩
  · rw [hr]; split <;> simp [RecordLaw, recordIn, Record.vacant]
  · rw [hr]; split <;> simp [keeping, withRecord, part, State.initial, Run.initial, State.setLink, putRec, State.setTable, PosSet.has,
      recordIn, Record.vacant]
  · decide +kernel
  · decide +kernel
  · refine ⟨by decide +kernel, fun p => ?_, by decide +kernel, by decide +kernel, fun h => absurd h (by decide +kernel)⟩
    rw [hr]; split <;> simp [keeping, withRecord, part, State.initial, Closure.initial, State.setLink, putRec, State.setTable, recordIn,
      Record.vacant]
  · decide +kernel
  · decide +kernel

theorem test_a_kept_stock_and_unit : (∀ i, slotOk (keeping.stock.get i)) ∧ reservations keeping.closure ≤ remaining keeping.stock ∧
    TagLaw keeping ∧ CarriageLaw keeping := by
  have hr : ∀ p n, ¬holdsTag (getRec keeping p) n := by
    have : ∀ p, (getRec keeping p).closure = none ∧ (getRec keeping p).spoiled = none := by decide +kernel
    intro p n h
    rcases h with ⟨t, h, _⟩ | h
    · rw [(this p).1] at h; cases h
    · rw [(this p).2] at h; cases h
  have hs : ∀ i, keeping.stock.get i = .empty := by decide +kernel
  refine ⟨fun i => by rw [hs]; trivial, by decide +kernel, ⟨fun p q n h => absurd h (hr p n), fun p n h => absurd h (hr p n),
    fun n i _ h => by rw [hs] at h; exact h, fun n i j h => by rw [hs] at h; exact h.elim⟩, ?_⟩
  refine ⟨by decide +kernel, trivial, by decide +kernel, by decide +kernel, ?_, ?_, by decide +kernel, by decide +kernel⟩
  · exact fun h => absurd h (by decide +kernel)
  · exact fun h => absurd h (by decide +kernel)

theorem test_a_kept_run_and_link : CascadeLaw keeping ∧ MeasurementLaw keeping ∧ LinkLaw keeping ∧ AtnLaw keeping := by
  refine ⟨⟨?_, ?_, ?_, ?_, ?_, ?_, ?_, ?_⟩, ⟨?_, ?_, ?_, ?_, ?_, ?_, ?_⟩, ⟨?_, ?_, ?_, ?_, ?_, ?_⟩, ?_⟩
  all_goals try decide +kernel
  all_goals try (intro h; exact absurd h (by decide +kernel))
  · rfl
  · refine ⟨fun h => absurd h (by decide +kernel), ?_⟩
    rintro ⟨level, h, _⟩
    match level, h with
    | 1, h | 2, h | 3, h | 4, h | 5, h | 6, h => exact absurd h (by simp [isPending, keeping, withRecord, part, State.initial,
        Attention.clear, State.setLink, putRec, State.setTable])

end Sys2Proof.Tests
end

section
/-! PROOF. RETIRE and RETEST (R17, R19), over two facts about requests that other requests share: an addressed request that the
receiver can take ends as its effect on the taken link says, and a request on a position is refused above 47 (R2). -/

namespace Sys2Proof.Machine

/-! ## Requests on a named position (R2, R180 to R184) -/

section Requests
variable {s t : State} {b : Byte} {p : Pos} {code : Nat} {st : Status} {payload : List Byte}

/-- The effect of a request sees the taken link; what it hands on is the outcome `t` with that link. -/
theorem request_addressed_eq_answered {effect : State → State × Reply} (take : CanTake s)
    (h : effect (s.setLink (takenLink s.link)) = (t.setLink (takenLink t.link), ⟨st, payload⟩)) :
    .next (request .addressed code effect s) = answered .addressed st payload t := by
  simp only [request, if_neg take, h]
  rfl

theorem posOfByte_eq_some (h : b.toNat = p.val) : posOfByte b = some p := by
  simp [posOfByte, h]

theorem posOfByte_eq_none (h : 48 ≤ b.toNat) : posOfByte b = none := by
  simp [posOfByte, Nat.not_lt.mpr h]

theorem request_atPosition_outOfRange {effect : Pos → State → State × Reply} (take : CanTake s) (high : 48 ≤ b.toNat) :
    .next (request .addressed code (atPosition b effect) s) = answered .addressed .outOfRange [] s :=
  request_addressed_eq_answered take (by simp only [atPosition, posOfByte_eq_none high]; rfl)

theorem request_atPosition_eq_answered {effect : Pos → State → State × Reply} (take : CanTake s) (at_p : b.toNat = p.val)
    (h : effect p (s.setLink (takenLink s.link)) = (t.setLink (takenLink t.link), ⟨st, payload⟩)) :
    .next (request .addressed code (atPosition b effect) s) = answered .addressed st payload t :=
  request_addressed_eq_answered take (by simpa only [atPosition, posOfByte_eq_some at_p] using h)

end Requests

/-! ## RETIRE (R17) -/

section Retire
variable {s : State} {b : Byte} {p : Pos} {r : Record} {st : Status}

theorem retireRefusal_vacant (h : r.state = .vacant) : retireRefusal r = some .wrongState := by
  simp [retireRefusal, h]

theorem retireRefusal_busy (h : r.state = .active ∨ r.state = .closing) : retireRefusal r = some .busy := by
  rcases h with active | closing
  · simp [retireRefusal, active]
  · simp [retireRefusal, closing]

theorem retireRefusal_unreported
    (h : r.state = .passed ∧ r.spoiled ≠ none ∨ r.state = .closed ∧ ¬∃ tag, r.closure = some tag ∧ tag.acknowledged = true) :
    retireRefusal r = some .unreported := by
  rcases h with ⟨passed, spoiled⟩ | ⟨closed, open_tag⟩
  · simp [retireRefusal, passed, Option.isSome_iff_ne_none, spoiled]
  · simp only [← Option.any_eq_true] at open_tag
    simp [retireRefusal, closed, open_tag]

theorem retireRefusal_none
    (h : r.state = .mounted ∨ r.state = .ready ∨ r.state = .failed ∨ r.state = .passed ∧ r.spoiled = none ∨
      r.state = .closed ∧ ∃ tag, r.closure = some tag ∧ tag.acknowledged = true) : retireRefusal r = none := by
  rcases h with mounted | ready | failed | ⟨passed, unspoiled⟩ | ⟨closed, tag, held, acknowledged⟩
  · simp [retireRefusal, mounted]
  · simp [retireRefusal, ready]
  · simp [retireRefusal, failed]
  · simp [retireRefusal, passed, unspoiled]
  · simp [retireRefusal, closed, held, acknowledged]

theorem retirePosition_of_refusal (h : retireRefusal (getRec s p) = some st) : retirePosition p s = (s, st) := by
  simp [retirePosition, h]

theorem retirePosition_of_no_refusal (h : retireRefusal (getRec s p) = none) : retirePosition p s = (vacate p s, .ok) := by
  simp [retirePosition, h]

theorem exec_retire_refused (take : CanTake s) (at_p : b.toNat = p.val) (h : retireRefusal (getRec s p) = some st) :
    exec (.retire .addressed b) s = answered .addressed st [] s :=
  request_atPosition_eq_answered take at_p
    (congrArg (fun r => answer r.2 r.1) (retirePosition_of_refusal (s := s.setLink (takenLink s.link)) h))

theorem exec_retire_accepted (take : CanTake s) (at_p : b.toNat = p.val) (h : retireRefusal (getRec s p) = none) :
    exec (.retire .addressed b) s = answered .addressed .ok [] (vacate p s) :=
  request_atPosition_eq_answered take at_p
    (congrArg (fun r => answer r.2 r.1) (retirePosition_of_no_refusal (s := s.setLink (takenLink s.link)) h))

end Retire

/-- Settles O19: each clause is the case of `retireRefusal` for the record's state. -/
theorem retireTakesARecordBackToVacant : Obligations.RetireTakesARecordBackToVacant := by
  intro b s take
  refine ⟨request_atPosition_outOfRange take, fun p at_p => ⟨fun vacant => ?_, fun busy => ?_, fun unreported => ?_, fun free => ?_⟩⟩
  · exact exec_retire_refused take at_p (retireRefusal_vacant vacant)
  · exact exec_retire_refused take at_p (retireRefusal_busy busy)
  · exact exec_retire_refused take at_p (retireRefusal_unreported unreported)
  · exact exec_retire_accepted take at_p (retireRefusal_none free)

/-! ## RETEST (R19) -/

section Retest
variable {s : State} {p : Pos}

theorem retestAt_judged (h : (getRec s p).state = .failed ∨ (getRec s p).state = .passed ∧ (getRec s p).spoiled = none) :
    retestAt p s = answer .ok (putRec s p { getRec s p with state := .ready, results := [] }) := by
  rcases h with failed | ⟨passed, unspoiled⟩
  · simp [retestAt, failed]
  · simp [retestAt, passed, unspoiled]

theorem retestAt_spoiled (passed : (getRec s p).state = .passed) (spoiled : (getRec s p).spoiled ≠ none) :
    retestAt p s = answer .unreported s := by
  simp [retestAt, passed, Option.isSome_iff_ne_none, spoiled]

theorem retestAt_unjudged (failed : (getRec s p).state ≠ .failed) (passed : (getRec s p).state ≠ .passed) :
    retestAt p s = answer .wrongState s := by
  cases h : (getRec s p).state with
  | failed => exact absurd h failed
  | passed => exact absurd h passed
  | vacant | mounted | ready | active | closing | closed => simp [retestAt, h]

end Retest

/-- Settles O20: each clause is the case of `retestAt` for the record's state. -/
theorem retestReturnsAJudgedRecordToReady : Obligations.RetestReturnsAJudgedRecordToReady := by
  intro b s take
  refine ⟨request_atPosition_outOfRange take, fun p at_p => ⟨fun judged => ?_, fun passed spoiled => ?_, fun unjudged => ?_⟩⟩
  · exact request_atPosition_eq_answered take at_p (retestAt_judged (s := s.setLink (takenLink s.link)) judged)
  · exact request_atPosition_eq_answered take at_p (retestAt_spoiled (s := s.setLink (takenLink s.link)) passed spoiled)
  · have failed : (getRec s p).state ≠ .failed := fun h => by simp [h] at unjudged
    have passed : (getRec s p).state ≠ .passed := fun h => by simp [h] at unjudged
    exact request_atPosition_eq_answered take at_p (retestAt_unjudged (s := s.setLink (takenLink s.link)) failed passed)

end Sys2Proof.Machine
end

section
/-! PROOF. The arithmetic of errors (R69 to R74), over two facts about the rounding: what it gives from a quotient and a remainder, and
that it stays within every whole bound of the exact quotient. -/

namespace Sys2Proof.Machine

/-! ## Rounding to the nearest, halves away from zero (R70) -/

section Rounding
variable {d q rem bound : Nat}

theorem roundNat_eq_of_quotient {n : Nat} (split : n = q * d + rem) (small : rem < d) :
    roundNat n d = if d ≤ 2 * rem then q + 1 else q := by
  have positive : 0 < d := Nat.zero_lt_of_lt small
  obtain ⟨quotient, remainder⟩ := (Nat.div_mod_unique positive).mpr ⟨(by rw [split]; ring : rem + d * q = n), small⟩
  rw [roundNat, quotient, remainder]

/-- A quotient of exactly `bound` leaves no remainder, so it is not rounded up. -/
theorem roundNat_le_of_le_mul {n : Nat} (positive : 0 < d) (h : n ≤ bound * d) : roundNat n d ≤ bound := by
  rw [roundNat]
  split
  next up =>
    have remainder : 0 < n % d := by omega
    have quotient : n / d * d < bound * d := by
      calc n / d * d < n / d * d + n % d := Nat.lt_add_of_pos_right remainder
        _ = n := Nat.div_add_mod' n d
        _ ≤ bound * d := h
    exact Nat.lt_of_mul_lt_mul_right quotient
  next => exact Nat.div_le_of_le_mul (by rwa [Nat.mul_comm])

theorem roundDiv_eq_of_quotient {n : Int} (split : n.natAbs = q * d + rem) (small : rem < d) :
    roundDiv n d = (if n < 0 then -1 else 1) * (if d ≤ 2 * rem then q + 1 else q : Nat) := by
  rw [roundDiv, roundNat_eq_of_quotient split small]
  by_cases negative : n < 0
  · rw [if_pos negative, if_pos negative, neg_one_mul]
  · rw [if_neg negative, if_neg negative, one_mul]

theorem natAbs_roundDiv (n : Int) (d : Nat) : (roundDiv n d).natAbs = roundNat n.natAbs d := by
  rw [roundDiv]
  split
  next => rw [Int.natAbs_neg, Int.natAbs_natCast]
  next => rw [Int.natAbs_natCast]

end Rounding

/-! ## The repetition error (R69 to R72) -/

section Repetition
variable {n mr r : Nat}

theorem saturates_iff :
    saturates n mr r = true ↔ Config.ppmMax * (Config.ratioUnit * r) < (gateDifference n mr r).natAbs * 1000000 :=
  decide_eq_true_iff

theorem repetitionError_saturated (h : saturates n mr r = true) :
    repetitionError n mr r = if 0 < gateDifference n mr r then (Config.ppmMax : Int) else -Config.ppmMax :=
  if_pos h

theorem repetitionError_unsaturated (h : saturates n mr r = false) :
    repetitionError n mr r = roundDiv (gateDifference n mr r * 1000000) (Config.ratioUnit * r) := by
  simp [repetitionError, h]

theorem repetitionError_eq_of_quotient {q rem : Nat} (h : saturates n mr r = false)
    (split : (gateDifference n mr r).natAbs * 1000000 = q * (Config.ratioUnit * r) + rem) (small : rem < Config.ratioUnit * r) :
    repetitionError n mr r =
      (if gateDifference n mr r < 0 then -1 else 1) * (if Config.ratioUnit * r ≤ 2 * rem then q + 1 else q : Nat) := by
  have sign : gateDifference n mr r * 1000000 < 0 ↔ gateDifference n mr r < 0 := by omega
  rw [repetitionError_unsaturated h, roundDiv_eq_of_quotient (by rw [Int.natAbs_mul]; exact split) small]
  simp only [sign]

theorem natAbs_repetitionError_le (counted : 1 ≤ r) : (repetitionError n mr r).natAbs ≤ Config.ppmMax := by
  cases h : saturates n mr r with
  | true =>
    rw [repetitionError_saturated h]
    split
    next => rw [Int.natAbs_natCast]
    next => rw [Int.natAbs_neg, Int.natAbs_natCast]
  | false =>
    have positive : 0 < Config.ratioUnit * r := Nat.mul_pos (by decide) counted
    have within_test : (gateDifference n mr r).natAbs * 1000000 ≤ Config.ppmMax * (Config.ratioUnit * r) :=
      Nat.le_of_not_lt fun beyond => by simp [saturates_iff.mpr beyond] at h
    rw [repetitionError_unsaturated h, natAbs_roundDiv, Int.natAbs_mul]
    exact roundNat_le_of_le_mul positive within_test

theorem repetitionError_bounded (counted : 1 ≤ r) :
    -(Config.ppmMax : Int) ≤ repetitionError n mr r ∧ repetitionError n mr r ≤ Config.ppmMax := by
  have := natAbs_repetitionError_le (n := n) (mr := mr) counted
  omega

end Repetition

/-! ## Accumulation, judgement and result (R67, R73, R74) -/

section Outcome
variable {c : Context} {lo hi : Int} {limit spreadLimit : Nat}

theorem accumulate_eq (c : Context) (e : Int) (sat : Bool) :
    accumulate c e sat = { c with
      sum := c.sum + e, repetitions := c.repetitions + 1, saturated := c.saturated || sat
      range := some (match c.range with | none => (e, e) | some (lo, hi) => (min lo e, max hi e)) } := by
  cases h : c.range with
  | none => simp only [accumulate, widen, h]
  | some range => simp only [accumulate, widen, h]

theorem spreadOf_of_range (h : c.range = some (lo, hi)) : spreadOf c = (hi - lo).toNat := by
  simp [spreadOf, h]

theorem judge_saturated (h : c.saturated = true) : judge limit spreadLimit c = .fail :=
  if_pos h

theorem judge_unsaturated (h : c.saturated = false) :
    judge limit spreadLimit c = if (meanOf c).natAbs ≤ limit ∧ spreadOf c ≤ spreadLimit then .pass else .fail := by
  simp [judge, h]

theorem judge_eq_pass_iff (unsaturated : c.saturated = false) (range : c.range = some (lo, hi)) :
    judge limit spreadLimit c = .pass ↔ -(limit : Int) ≤ meanOf c ∧ meanOf c ≤ limit ∧ hi - lo ≤ spreadLimit := by
  have passes : judge limit spreadLimit c = .pass ↔ (meanOf c).natAbs ≤ limit ∧ spreadOf c ≤ spreadLimit := by
    rw [judge_unsaturated unsaturated]
    simp
  rw [passes, spreadOf_of_range range]
  omega

theorem judge_pass_or_fail (limit spreadLimit : Nat) (c : Context) :
    judge limit spreadLimit c = .pass ∨ judge limit spreadLimit c = .fail := by
  cases h : c.saturated with
  | true => exact .inr (judge_saturated h)
  | false =>
    rw [judge_unsaturated h]
    split
    next => exact .inl rfl
    next => exact .inr rfl

theorem errorResult_without_repetitions {outcome : PointOutcome} (h : c.repetitions = 0) :
    errorResult outcome c = ⟨outcome, .error, 0, none, none, c.saturated⟩ := by
  simp [errorResult, h]

theorem errorResult_of_range {outcome : PointOutcome} (h : c.range = some (lo, hi)) :
    errorResult outcome c = ⟨outcome, .error, c.repetitions, if 1 ≤ c.repetitions then some (meanOf c) else none,
      if 2 ≤ c.repetitions then some (hi - lo).toNat else none, c.saturated⟩ := by
  rw [errorResult, spreadOf_of_range h]

end Outcome

/-- Settles O44: the repetition error and the mean are the same rounding, of the gate's quotient and of the context's. -/
theorem errorsAreExactRoundedAndBounded : Obligations.ErrorsAreExactRoundedAndBounded := by
  refine ⟨fun n mr r counted => ⟨saturates_iff, repetitionError_saturated, fun unsaturated q rem split small => ?_,
    repetitionError_bounded counted⟩, fun c _ q rem split small => ?_, accumulate_eq, fun c limit spreadLimit => judge_saturated,
    fun c lo hi limit spreadLimit unsaturated range _ => ⟨?_, ?_⟩, fun outcome c => errorResult_without_repetitions,
    fun outcome c lo hi range _ => errorResult_of_range range⟩
  · exact repetitionError_eq_of_quotient unsaturated split small
  · exact roundDiv_eq_of_quotient split small
  · exact judge_eq_pass_iff unsaturated range
  · exact judge_pass_or_fail limit spreadLimit c

end Sys2Proof.Machine
end

section
/-! PROOF. ROLL_DROP (R127), over one fact about the stock that every change of a slot can use: by how much the remaining count moves
when a slot is replaced (R124). -/

namespace Sys2Proof.Machine

/-! ## The remaining count (R124) -/

section Remaining
variable {stock : Tbl 4 RollSlot} {i : Fin 4}

theorem remaining_eq_sum (stock : Tbl 4 RollSlot) : remaining stock = ∑ j, undrawn (stock.get j) := by
  rw [remaining, Tbl.cells_eq_ofFn, List.map_ofFn, List.sum_ofFn]
  rfl

theorem remaining_eq_undrawn_add (stock : Tbl 4 RollSlot) (i : Fin 4) :
    remaining stock = undrawn (stock.get i) + ∑ j ∈ Finset.univ.erase i, undrawn (stock.get j) := by
  rw [remaining_eq_sum, Finset.add_sum_erase _ (fun j => undrawn (stock.get j)) (Finset.mem_univ i)]

/-- The slots other than the replaced one count as they did. -/
theorem remaining_set_add (stock : Tbl 4 RollSlot) (i : Fin 4) (slot : RollSlot) :
    remaining (stock.set i slot) + undrawn (stock.get i) = remaining stock + undrawn slot := by
  have others : ∑ j ∈ Finset.univ.erase i, undrawn ((stock.set i slot).get j) =
      ∑ j ∈ Finset.univ.erase i, undrawn (stock.get j) :=
    Finset.sum_congr rfl fun j hj => by rw [Tbl.get_set_ne stock (Finset.ne_of_mem_erase hj)]
  rw [remaining_eq_undrawn_add (stock.set i slot) i, remaining_eq_undrawn_add stock i, Tbl.get_set_self, others]
  omega

theorem remaining_set_empty (stock : Tbl 4 RollSlot) (i : Fin 4) :
    remaining (stock.set i .empty) = remaining stock - undrawn (stock.get i) :=
  Nat.eq_sub_of_add_eq (remaining_set_add stock i .empty)

theorem remaining_drop_exhausted {first last : Nat} (h : stock.get i = .exhausted first last) :
    remaining (stock.set i .empty) = remaining stock := by
  rw [remaining_set_empty, h]
  rfl

theorem remaining_drop_loaded {first last next : Nat} (h : stock.get i = .loaded first last next) :
    remaining (stock.set i .empty) = remaining stock - (last + 1 - next) := by
  rw [remaining_set_empty, h]
  rfl

end Remaining

/-! ## ROLL_DROP (R127) -/

section RollDrop
variable {s : State} {b : Byte} {i : Fin 4} {first last next : Nat}

theorem slotOfByte_eq_some (h : b.toNat = i.val) : slotOfByte b = some i := by
  simp [slotOfByte, h]

theorem slotOfByte_eq_none (h : 3 < b.toNat) : slotOfByte b = none := by
  simp [slotOfByte, Nat.not_lt.mpr h]

theorem reqRollDrop_no_slot (high : 3 < b.toNat) : reqRollDrop b s = answer .outOfRange s := by
  simp only [reqRollDrop, slotOfByte_eq_none high]

theorem reqRollDrop_empty (at_i : b.toNat = i.val) (h : s.stock.get i = .empty) : reqRollDrop b s = answer .wrongState s := by
  simp only [reqRollDrop, slotOfByte_eq_some at_i, h]

theorem reqRollDrop_exhausted (at_i : b.toNat = i.val) (h : s.stock.get i = .exhausted first last) :
    reqRollDrop b s = answer .ok (s.setStock (s.stock.set i .empty)) := by
  simp only [reqRollDrop, slotOfByte_eq_some at_i, h]

theorem reqRollDrop_loaded_counted_on (at_i : b.toNat = i.val) (h : s.stock.get i = .loaded first last next)
    (short : remaining s.stock - (last + 1 - next) < reservations s.closure) : reqRollDrop b s = answer .noStock s := by
  simp only [reqRollDrop, slotOfByte_eq_some at_i, h]
  exact if_pos short

theorem reqRollDrop_loaded_to_spare (at_i : b.toNat = i.val) (h : s.stock.get i = .loaded first last next)
    (enough : reservations s.closure ≤ remaining s.stock - (last + 1 - next)) :
    reqRollDrop b s = answer .ok (noteStockFall (remaining s.stock) (s.setStock (s.stock.set i .empty))) := by
  simp only [reqRollDrop, slotOfByte_eq_some at_i, h]
  exact if_neg (Nat.not_lt.mpr enough)

/-- The low-stock notice leaves the link as it was taken. -/
theorem exec_rollDrop_loaded_to_spare (take : CanTake s) (at_i : b.toNat = i.val) (h : s.stock.get i = .loaded first last next)
    (enough : reservations s.closure ≤ remaining s.stock - (last + 1 - next)) :
    exec (.rollDrop .addressed b) s =
      answered .addressed .ok [] (noteStockFall (remaining s.stock) (s.setStock (s.stock.set i .empty))) := by
  have link : (noteStockFall (remaining s.stock) (s.setStock (s.stock.set i .empty))).link = s.link :=
    (noteStockFall_frame _ _).2 .link (by decide)
  refine request_addressed_eq_answered take ?_
  rw [link, ← noteStockFall_setLink]
  exact reqRollDrop_loaded_to_spare (s := s.setLink (takenLink s.link)) at_i h enough

end RollDrop

/-- Settles O37: each clause is the case of `reqRollDrop` for the slot's state; the counts are `remaining_set_add` at an EMPTY slot. -/
theorem rollDropKeepsEnoughForTheQueue : Obligations.RollDropKeepsEnoughForTheQueue := by
  intro b s take
  refine ⟨fun high => ?_, fun i at_i => ⟨fun empty => ?_, fun _ _ exhausted => ⟨?_, remaining_drop_exhausted exhausted⟩,
    fun _ _ _ loaded => ⟨fun short => ?_, fun enough => ⟨remaining_drop_loaded loaded, ?_⟩⟩⟩⟩
  · exact request_addressed_eq_answered take (reqRollDrop_no_slot high)
  · exact request_addressed_eq_answered take (reqRollDrop_empty at_i empty)
  · exact request_addressed_eq_answered take (reqRollDrop_exhausted at_i exhausted)
  · exact request_addressed_eq_answered take (reqRollDrop_loaded_counted_on at_i loaded short)
  · rw [exec_rollDrop_loaded_to_spare take at_i loaded enough, noteStockFall, State.setStock_stock, remaining_drop_loaded loaded]
    rfl

end Sys2Proof.Machine
end

section
/-! PROOF. ATTEND_DONE (R197), GET and IDENTIFY (R186, R187), over facts that other proofs can use: what requests leave alone and which
broadcast ones are ignored (R184), when ATN is asserted (R195), and which ids are settings with which defaults (R185). -/

namespace Sys2Proof.Machine

/-! ## Requests, ignored when broadcast and framed by their effect (R180 to R184) -/

section Requests
variable {s : State} {code : Nat} {effect : State → State × Reply}

theorem request_broadcast_ignored (take : CanTake s) (barred : mayBroadcast code = false) :
    .next (request .broadcast code effect s) = answered .broadcast .ok [] s := by
  simp only [request, if_neg take, barred]
  rfl

theorem respond_frame (r : State × Reply) : OnlyChanges [.link] r.1 (respond r) := setLink_frame _ _

theorem request_frame {how : Addressing} {bs : List Block} (frame : ∀ t, OnlyChanges bs t (effect t).1) :
    OnlyChanges (.link :: bs) s (request how code effect s) := by
  have taken : OnlyChanges (.link :: bs) s (s.setLink (takenLink s.link)) := (setLink_frame _ _).mono (by simp)
  have carried_out : OnlyChanges (.link :: bs) s (effect (s.setLink (takenLink s.link))).1 :=
    taken.trans ((frame _).mono (List.subset_cons_self _ _))
  unfold request
  split
  next => exact .refl _ _
  next =>
    cases how with
    | addressed => exact carried_out.trans ((respond_frame _).mono (by simp))
    | broadcast => exact carried_out.ite taken

end Requests

/-! ## ATN (R194, R195) -/

section Atn
variable {s : State} {a : Attention} {mask levels : BitVec 6} {i n level : Nat}

theorem pendingClasses_eq_ofBoolListLE (a : Attention) :
    pendingClasses a = BitVec.ofBoolListLE [a.stockLow.isSome, a.operator.isSome, a.closed.isSome, a.pointEnd.isSome,
      a.runEnd.isSome, a.fault.isSome] := by
  have bits : ∀ b₀ b₁ b₂ b₃ b₄ b₅ : Bool,
      BitVec.ofNat 6 (bit b₀ 0 + bit b₁ 1 + bit b₂ 2 + bit b₃ 3 + bit b₄ 4 + bit b₅ 5) =
        BitVec.ofBoolListLE [b₀, b₁, b₂, b₃, b₄, b₅] := by decide
  exact bits ..

theorem isPending_succ_iff : isPending a (i + 1) ↔ (pendingClasses a).getLsbD i = true := by
  rw [pendingClasses_eq_ofBoolListLE, BitVec.getLsbD_ofBoolListLE]
  match i with
  | 0 | 1 | 2 | 3 | 4 | 5 => exact Iff.rfl
  | _ + 6 => simp [isPending]

theorem lt_topLevel (h : levels.getLsbD i = true) : i < topLevel levels := by
  have six := BitVec.lt_of_getLsbD h
  unfold topLevel
  split_ifs <;> grind

theorem getLsbD_of_topLevel (h : topLevel levels = n + 1) : levels.getLsbD n = true := by
  unfold topLevel at h
  split_ifs at h <;> grind

theorem lt_topLevel_iff : n < topLevel levels ↔ ∃ i, levels.getLsbD i = true ∧ n ≤ i := by
  constructor
  · intro h
    obtain ⟨i, top⟩ := Nat.exists_eq_succ_of_ne_zero (Nat.ne_zero_of_lt h)
    exact ⟨i, getLsbD_of_topLevel top, by omega⟩
  · rintro ⟨i, set, le⟩
    exact le.trans_lt (lt_topLevel set)

theorem topLevel_le_iff : topLevel levels ≤ n ↔ ∀ i, levels.getLsbD i = true → i < n := by
  rw [← not_lt, lt_topLevel_iff]
  push Not
  rfl

theorem callingLevel_ne_zero_iff :
    callingLevel mask a ≠ 0 ↔ topLevel a.inService < topLevel (pendingClasses a &&& mask) := by
  simp only [callingLevel]
  split <;> omega

theorem calls_succ_iff : calls s (i + 1) ↔
    (pendingClasses s.attn &&& s.settings.attnMask).getLsbD i = true ∧ topLevel s.attn.inService ≤ i := by
  simp [calls, isPending_succ_iff, topLevel_le_iff, and_assoc]

theorem not_calls_zero : ¬calls s 0 := fun ⟨pending, _⟩ => pending

theorem exists_calls_iff : (∃ level, calls s level) ↔ callingLevel s.settings.attnMask s.attn ≠ 0 := by
  rw [callingLevel_ne_zero_iff, lt_topLevel_iff]
  constructor
  · rintro ⟨level, call⟩
    cases level with
    | zero => exact absurd call not_calls_zero
    | succ i => exact ⟨i, calls_succ_iff.mp call⟩
  · rintro ⟨i, call⟩
    exact ⟨i + 1, calls_succ_iff.mpr call⟩

theorem atnLaw_putAttn (s : State) (a : Attention) : AtnLaw (putAttn s a) := by
  rw [AtnLaw, exists_calls_iff]
  exact decide_eq_true_iff

end Atn

/-! ## ATTEND_DONE (R197) -/

section AttendDone
variable {s : State} {level : Byte}

theorem reqAttendDone_no_level (h : level.toNat < 1 ∨ 6 < level.toNat) : reqAttendDone level s = answer .outOfRange s := by
  have outside : within 1 6 level.toNat = false := by simp [within]; omega
  simp [reqAttendDone, outside]

theorem reqAttendDone_not_in_service (low : 1 ≤ level.toNat) (high : level.toNat ≤ 6)
    (idle : s.attn.inService.getLsbD (level.toNat - 1) = false) : reqAttendDone level s = answer .wrongState s := by
  simp [reqAttendDone, within, low, high, idle]

theorem reqAttendDone_in_service (low : 1 ≤ level.toNat) (high : level.toNat ≤ 6)
    (served : s.attn.inService.getLsbD (level.toNat - 1) = true) :
    reqAttendDone level s = answer .ok (putAttn s { s.attn with
      inService := s.attn.inService &&& ~~~BitVec.twoPow 6 (level.toNat - 1) }) := by
  simp [reqAttendDone, within, low, high, served]

end AttendDone

/-- Settles O15: each clause is the case of `reqAttendDone` for the level; ATN is set afresh as every `putAttn` sets it. -/
theorem attendDoneEndsServiceOfALevel : Obligations.AttendDoneEndsServiceOfALevel := by
  intro level s take
  refine ⟨fun outside => ?_, fun low high idle => ?_, fun low high served =>
    ⟨putAttn s { s.attn with inService := s.attn.inService &&& ~~~BitVec.twoPow 6 (level.toNat - 1) }, _, ?_, rfl,
      atnLaw_putAttn _ _⟩, ?_⟩
  · exact request_addressed_eq_answered take (reqAttendDone_no_level outside)
  · exact request_addressed_eq_answered take (reqAttendDone_not_in_service low high idle)
  · exact request_addressed_eq_answered take (reqAttendDone_in_service (s := s.setLink (takenLink s.link)) low high served)
  · exact request_broadcast_ignored take rfl

/-! ## Settings: their ids, and their values after FULL_RESET and BENCH_CLEAR (R177, R185, R189) -/

section Settings
variable {s : State} {v : Settings} {id lo hi d : Nat}

theorem settingValue_of_mem (v : Settings) (h : (id, lo, hi, d) ∈ settingTable) : ∃ n, settingValue v id = some n := by
  have all_held : settingTable.all (fun e => (settingValue v e.1).isSome) = true := rfl
  exact Option.isSome_iff_exists.mp (List.all_eq_true.mp all_held _ h)

theorem mem_ids_of_settingValue (h : settingValue v id ≠ none) : id ∈ settingTable.map Prod.fst := by
  revert h
  unfold settingValue
  split
  case h_21 => exact fun h => absurd rfl h
  all_goals exact fun _ => by decide

theorem settingValue_of_not_mem (h : ∀ lo hi d, (id, lo, hi, d) ∉ settingTable) : settingValue v id = none := by
  by_contra held
  obtain ⟨⟨_, lo, hi, d⟩, mem, rfl⟩ := List.mem_map.mp (mem_ids_of_settingValue held)
  exact h lo hi d mem

theorem settingValue_default (h : (id, lo, hi, d) ∈ settingTable) : settingValue Settings.default id = some d := by
  have defaults : ∀ e ∈ settingTable, settingValue Settings.default e.1 = some e.2.2.2 := by decide
  exact defaults _ h

theorem fullReset_settings (straps : Straps) (s : State) : (fullReset straps s).settings = Settings.default := by
  unfold fullReset
  split
  · rfl
  · rfl

theorem reqBenchClear_frame (s : State) : OnlyChanges [.table, .link, .attn, .panel] s (reqBenchClear s).1 := by
  unfold reqBenchClear
  split
  next => exact .refl _ _
  next =>
    exact (((setTable_frame s _).comp (setLink_frame _ _) (ds := [.table, .link])).comp (putAttn_frame _ _)
      (ds := [.table, .link, .attn])).comp (setPanel_frame _ _)

end Settings

/-! ## GET and IDENTIFY (R186, R187) -/

section Reports
variable {s : State} {id : Byte} {n : Nat}

theorem reqGet_unknown (h : settingValue s.settings id.toNat = none) : reqGet id s = answer .outOfRange s := by
  simp [reqGet, h]

theorem reqGet_known (h : settingValue s.settings id.toNat = some n) : reqGet id s = answerOk (id :: be 4 n) s := by
  simp [reqGet, settingPayload, h]

theorem reqIdentify_eq (s : State) : reqIdentify s =
    answerOk [0x48, 0x44, 0x50, 0x12, 0xD4, 1, s.straps.station.setWidth 8, s.straps.role.code, 48, 16, 4] s := rfl

end Reports

/-- Settles O12: GET and IDENTIFY hand on the state they see; FULL_RESET puts up the default settings, and BENCH_CLEAR has no settings
in its frame. -/
theorem getAndIdentifyReportWhatThePartHolds : Obligations.GetAndIdentifyReportWhatThePartHolds := by
  refine ⟨fun id s take => ⟨fun unknown => ?_, fun lo hi d known => ?_, request_broadcast_ignored take rfl⟩,
    fun station role rate s => ⟨_, rfl, fun id lo hi d known => ?_⟩, fun how s => ⟨_, rfl, ?_⟩,
    fun s take => ⟨?_, request_broadcast_ignored take rfl⟩⟩
  · exact request_addressed_eq_answered take (reqGet_unknown (settingValue_of_not_mem unknown))
  · obtain ⟨n, held⟩ := settingValue_of_mem s.settings known
    exact ⟨n, held, request_addressed_eq_answered take (reqGet_known (s := s.setLink (takenLink s.link)) held)⟩
  · rw [fullReset_settings]
    exact settingValue_default known
  · exact (request_frame reqBenchClear_frame).2 .settings (by decide)
  · exact request_addressed_eq_answered take (reqIdentify_eq _)

end Sys2Proof.Machine
end

section
/-! PROOF. What a step is made of, said once: every command is a chain of parts (`Part`), each one operation of one block's owner, so
that a law kept by every part is kept by every step. With it the tie of a request to its row, and that commands that are not FULL_RESET
change nothing but what their parts change. -/

namespace Sys2Proof.Machine

/-! ## The parts -/

/-- A change of position records at a request of the Position Table, or by a key (R11 to R21, R189). -/
inductive RecordPart : State → State → Prop
  | clear {s} : benchClearRefusal s = none → RecordPart s (s.setTable Table.empty)
  | mount {s} (mr : BitVec 32) (sense cls : Byte) (serial : List Byte) (p : Pos) :
      RecordPart s (mountAt mr sense cls serial p s).1
  | confirm {s} (p : Pos) : RecordPart s (confirmPosition p s).1
  | setMeter {s} (mr : BitVec 32) (sense cls : Byte) (p : Pos) : RecordPart s (setMeterAt mr sense cls p s).1
  | retire {s} (p : Pos) : RecordPart s (retirePosition p s).1
  | retest {s} (p : Pos) : RecordPart s (retestAt p s).1
  | ackTag {s} (tag : BitVec 32) (p : Pos) : RecordPart s (ackTagAt tag p s).1
  | ackSpoiled {s} (tag : BitVec 32) (p : Pos) : RecordPart s (ackSpoiledAt tag p s).1

/-- A change of the run, of its members' records and of the engine, at a request, a key, a line, an edge or an expiry (R62 to R120). -/
inductive RunPart : State → State → Prop
  | start {s} : RunPart s (reqRunStart s).1
  | hold {s} : RunPart s (holdRun s).1
  | resume {s} : RunPart s (resumeRun s).1
  | abort {s} : RunPart s (requestAbort s)
  | exclude {s} (p : Pos) : RunPart s (excludeAt p s).1
  | edge {s} (p : Pos) : RunPart s (deliverEdge p s)
  | referenceLost {s} : RunPart s (referenceLost s)
  | pointExpiry {s} : RunPart s (pointExpiry s)
  | latencyExpiry {s} : RunPart s (latencyExpiry s)
  | sourceExpiry {s} : RunPart s (sourceExpiry s)
  | settleExpiry {s} : RunPart s (settleExpiry s)
  | phaseLowEnd {s} : RunPart s (phaseLowEnd s)
  | holdOffExpiry {s} : RunPart s (holdOffExpiry s)
  | guardExpiry {s} : RunPart s (guardExpiry s)
  | srcReadyRise {s} : RunPart s (srcReadyRise s)
  | srcReadyFall {s} : RunPart s (srcReadyFall s)
  | phaseLineRise {s} : RunPart s (phaseLineRise s)
  | phaseLineFall {s} : RunPart s (phaseLineFall s)
  | doneLineRise {s} : RunPart s (doneLineRise s)
  /-- What the run reads on its lines, with nothing carried out. -/
  | lines {s} (srcReady phase done : Filter) (phaseReading doneReading : Bool) : RunPart s (s.setRun { s.run with
      srcReady := srcReady, phaseLine := phase, doneLine := done, phaseReading := phaseReading, doneReading := doneReading })

/-- A change of the queue, of the closure unit, of the record served and of the tag drawn (R134 to R157). -/
inductive UnitPart : State → State → Prop
  | close {s} (p : Pos) : UnitPart s (closePosition p s).1
  | closeCancel {s} (p : Pos) : UnitPart s (closeCancelAt p s).1
  | carriageHome {s} : UnitPart s (reqCarriageHome s).1
  | closureClear {s} : UnitPart s (reqClosureClear s).1
  | stepExpiry {s} : UnitPart s (stepExpiry s)
  | dwellExpiry {s} : UnitPart s (dwellExpiry s)
  | pressExpiry {s} : UnitPart s (pressExpiry s)
  | homeRise {s} : UnitPart s (homeRise s)
  | pressDoneRise {s} : UnitPart s (pressDoneRise s)
  /-- What the unit reads on its lines, with nothing carried out. -/
  | lines {s} (home pressDone : Filter) : UnitPart s (s.setClosure { s.closure with home := home, pressDone := pressDone })

/-- One part of what a command does beside receiving and answering. -/
inductive Part : State → State → Prop
  /-- The record cursor and its mark (R190 to R193). -/
  | cursor {s} (cursor mark : Nat) (edit : Bool)
      (inside : s.link.cursor ≤ 48 → s.link.mark ≤ 48 → cursor ≤ 48 ∧ mark ≤ 48) :
      Part s (s.setLink { s.link with cursor := cursor, mark := mark, edit := edit })
  | front {s} (f : Front) : Part s (s.setFront f)
  | panel {s} (v : Panel) : Part s (s.setPanel v)
  | attend {s} (a : Attention) : Part s (putAttn s a)
  | set {s} (id : Byte) (value : BitVec 32) : Part s (reqSet id value s).1
  | plan {s} (points : List Point) (open_ : planRefusal s = none)
      (fits : s.plan.length ≤ Config.planPlaces → points.length ≤ Config.planPlaces) : Part s (editPlan points s)
  | rollLoad {s} (slot : Byte) (first last : BitVec 32) : Part s (reqRollLoad slot first last s).1
  | rollDrop {s} (slot : Byte) : Part s (reqRollDrop slot s).1
  | record {s t} (h : RecordPart s t) : Part s t
  | run {s t} (h : RunPart s t) : Part s t
  | unit {s t} (h : UnitPart s t) : Part s t
  | tickTimers {s} : Part s (tickTimers s)

/-- One part after another. -/
abbrev Parts : State → State → Prop := Relation.ReflTransGen Part

/-- A law kept by every part is kept by a chain of them. -/
theorem Parts.keep {s t : State} {law : State → Prop} (each : ∀ {u v}, Part u v → law u → law v) (chain : Parts s t) (h : law s) :
    law t := by
  induction chain with
  | refl => exact h
  | tail _ part ih => exact each part ih

theorem Parts.ite {s t u : State} {c : Prop} [Decidable c] (h : Parts s t) (k : Parts s u) : Parts s (if c then t else u) := by
  split
  · exact h
  · exact k

theorem Parts.foldl {α : Type} {f : State → α → State} (each : ∀ s a, Parts s (f s a)) (as : List α) (s : State) :
    Parts s (as.foldl f s) := by
  induction as generalizing s with
  | nil => exact .refl
  | cons a as ih => exact (each s a).trans (ih (f s a))

/-- What `LinkLaw` asks of the frame and the gap timer. -/
def FrameInOrder (receiver : Receiver) (gap : Bool) : Prop :=
  match receiver with
  | .listening _ frame => frameOpen frame
  | _ => gap = false

theorem FrameInOrder.stop_gap {receiver : Receiver} {gap : Bool} (h : FrameInOrder receiver gap) : FrameInOrder receiver false := by
  cases receiver with
  | listening => exact h
  | idle | ignoring | responding => rfl

/-- `LinkLaw` as a law of the link alone. -/
def LinkInOrder (l : Link) : Prop :=
  (l.response.isSome = true ↔ l.quiet = true ∨ l.receiver = .responding) ∧
    (l.quiet = true → l.receiver = .idle) ∧ (l.txen = true ↔ l.receiver = .responding) ∧
    FrameInOrder l.receiver l.gap ∧ l.cursor ≤ 48 ∧ l.mark ≤ 48

/-- A part, or a change the receiver makes of the link that does not begin a response. -/
inductive Change : State → State → Prop
  | part {s t} (h : Part s t) : Change s t
  | link {s} (l : Link) (inOrder : LinkInOrder s.link → LinkInOrder l)
      (calm : l.receiver = .responding → s.link.receiver = .responding) : Change s (s.setLink l)

/-- One change after another. -/
abbrev Changes : State → State → Prop := Relation.ReflTransGen Change

theorem Parts.changes {s t : State} (h : Parts s t) : Changes s t := Relation.ReflTransGen.mono (fun _ _ => Change.part) _ _ h

theorem Changes.link {s : State} (l : Link) (inOrder : LinkInOrder s.link → LinkInOrder l)
    (calm : l.receiver = .responding → s.link.receiver = .responding) : Changes s (s.setLink l) :=
  .single (.link l inOrder calm)

theorem Changes.ite {s t u : State} {c : Prop} [Decidable c] (h : Changes s t) (k : Changes s u) : Changes s (if c then t else u) := by
  split
  · exact h
  · exact k

/-- A law kept by every change is kept by a chain of them. -/
theorem Changes.keep {s t : State} {law : State → Prop} (each : ∀ {u v}, Change u v → law u → law v) (chain : Changes s t) (h : law s) :
    law t := by
  induction chain with
  | refl => exact h
  | tail _ change ih => exact each change ih

/-! ## Frames of the parts -/

section Frames
variable (s : State)

theorem mountAt_frame (mr : BitVec 32) (sense cls : Byte) (serial : List Byte) (p : Pos) :
    OnlyChanges [.table] s (mountAt mr sense cls serial p s).1 := by
  unfold mountAt
  split
  · exact .refl _ s
  · split
    · exact .refl _ s
    · split
      · exact .refl _ s
      · split
        · exact .refl _ s
        · exact (putRec_frame s p _).comp (setTable_frame _ _)

theorem setMeterAt_frame (mr : BitVec 32) (sense cls : Byte) (p : Pos) : OnlyChanges [.table] s (setMeterAt mr sense cls p s).1 := by
  unfold setMeterAt
  split
  · exact .refl _ s
  · simp only
    split
    · exact putRec_frame s p _
    · exact .refl _ s

theorem retestAt_frame (p : Pos) : OnlyChanges [.table] s (retestAt p s).1 := by
  unfold retestAt
  simp only
  split
  · exact putRec_frame s p _
  · split
    · exact .refl _ s
    · exact putRec_frame s p _
  · exact .refl _ s

theorem ackTagAt_frame (tag : BitVec 32) (p : Pos) : OnlyChanges [.table] s (ackTagAt tag p s).1 := by
  unfold ackTagAt
  simp only
  split
  · exact .refl _ s
  · split
    · split
      · exact .refl _ s
      · exact putRec_frame s p _
    · exact .refl _ s

theorem ackSpoiledAt_frame (tag : BitVec 32) (p : Pos) : OnlyChanges [.table] s (ackSpoiledAt tag p s).1 := by
  unfold ackSpoiledAt
  simp only
  split
  · exact .refl _ s
  · split
    · split
      · exact .refl _ s
      · exact putRec_frame s p _
    · exact .refl _ s

theorem reqRunStart_frame : OnlyChanges [.table, .engine, .run] s (reqRunStart s).1 := by
  unfold reqRunStart
  split
  · exact .refl _ s
  · exact ((mapRecs_frame s _).comp (setRun_frame _ _) (ds := [.table, .engine, .run])).trans
      (.ite ((setRun_frame _ _).mono (by decide)) (enterSourcing_frame _))

theorem excludeAt_frame (p : Pos) : OnlyChanges [.table, .engine, .run, .attn] s (excludeAt p s).1 := by
  unfold excludeAt
  simp only
  split
  · exact .refl _ s
  · exact ((putRec_frame s p _).comp (setRun_frame _ _) (ds := [.table, .engine, .run, .attn])).trans
      (.ite ((breakOff_frame _ _).mono (by decide)) (membersChanged_frame _))

theorem memberDone_frame (p : Pos) : OnlyChanges [.table, .engine, .run, .attn] s (memberDone p s) :=
  (setRun_frame s _).comp (membersChanged_frame _)

theorem applyEdge_frame (p : Pos) (i : Nat) (effect : EdgeEffect) :
    OnlyChanges [.table, .engine, .run, .attn] s (applyEdge p i effect s) := by
  unfold applyEdge
  simp only
  split
  · exact (putRec_frame s p _).mono (by decide)
  · exact (putRec_frame s p _).comp (memberDone_frame _ p)

theorem deliverEdge_frame (p : Pos) : OnlyChanges [.table, .engine, .run, .attn] s (deliverEdge p s) := by
  unfold deliverEdge
  simp only
  split
  · exact .ite (applyEdge_frame s p _ _) (.refl _ s)
  · exact .refl _ s

theorem referenceLost_frame : OnlyChanges [.table, .attn] s (referenceLost s) := by
  unfold referenceLost
  split
  · exact .ite ((mapRecs_frame s _).comp (raiseFault_frame _ _ _)) ((mapRecs_frame s _).mono (by decide))
  · exact .refl _ s

theorem pointExpiry_frame : OnlyChanges [.table, .engine, .run, .attn] s (pointExpiry s) := by
  unfold pointExpiry
  split
  · exact (((setEngine_frame s _).comp (mapRecs_frame _ _) (ds := [.table, .engine])).comp (setRun_frame _ _)
      (ds := [.table, .engine, .run])).comp (membersChanged_frame _)
  · exact .refl _ s

theorem latencyExpiry_frame : OnlyChanges [.table, .engine, .run] s (latencyExpiry s) := .ite (lookAtSource_frame s) (.refl _ s)

theorem faultAbort_frame (kind : BitVec 7) : OnlyChanges [.table, .engine, .run, .attn] s (faultAbort kind s) :=
  (raiseFault_frame s kind 0).comp (abortRun_frame _)

theorem sourceExpiry_frame : OnlyChanges [.table, .engine, .run, .attn] s (sourceExpiry s) := by
  unfold sourceExpiry
  split
  · exact .ite (faultAbort_frame s _) (.refl _ s)
  · exact .refl _ s

theorem settleExpiry_frame : OnlyChanges [.table, .engine, .run] s (settleExpiry s) := .ite (settleOver_frame s) (.refl _ s)

theorem phaseLowEnd_frame : OnlyChanges [.table, .engine, .run] s (phaseLowEnd s) :=
  .ite (((setRun_frame s _).mono (by decide)).trans (.ite (enterMeasuring_frame _) (.refl _ _))) (.refl _ s)

theorem holdOffExpiry_frame : OnlyChanges [.table, .engine, .run, .attn] s (holdOffExpiry s) :=
  .ite ((setRun_frame s _).comp (membersChanged_frame _)) (.refl _ s)

theorem guardExpiry_frame : OnlyChanges [.table, .engine, .run, .attn] s (guardExpiry s) :=
  .ite (((cutMeasurement_frame s).comp (raiseFault_frame _ _ _) (ds := [.table, .engine, .run, .attn])).trans (endPoint_frame _))
    (.refl _ s)

theorem srcReadyRise_frame : OnlyChanges [.table, .engine, .run] s (srcReadyRise s) :=
  ((setRun_frame s _).mono (by decide)).trans (.ite (enterSettling_frame _) (.refl _ _))

theorem srcReadyFall_frame : OnlyChanges [.table, .engine, .run, .attn] s (srcReadyFall s) := by
  have heard : OnlyChanges [.table, .engine, .run, .attn] s (s.setRun { s.run with srcReady := confirmed false }) :=
    (setRun_frame s _).mono (by decide)
  unfold srcReadyFall
  simp only
  split
  · exact heard
  · split
    · exact heard.trans ((setRun_frame _ _).mono (by decide))
    · exact heard.trans (faultAbort_frame _ _)
    · exact heard

theorem phaseLineRise_frame : OnlyChanges [.table, .engine, .run] s (phaseLineRise s) :=
  ((setRun_frame s _).mono (by decide)).trans (.ite (enterMeasuring_frame _) (.refl _ _))

theorem slavePointEnd_frame : OnlyChanges [.table, .engine, .run, .attn] s (slavePointEnd s) :=
  ((cutMeasurement_frame s).comp (raisePointEnd_frame _ _ _) (ds := [.table, .engine, .run, .attn])).trans
    (.ite ((completeRun_frame _).mono (by decide)) ((setRun_frame _ _).mono (by decide)))

theorem phaseLineFall_frame : OnlyChanges [.table, .engine, .run, .attn] s (phaseLineFall s) :=
  ((setRun_frame s _).mono (by decide)).trans (.ite (slavePointEnd_frame _) (.refl _ _))

theorem doneLineRise_frame : OnlyChanges [.table, .engine, .run, .attn] s (doneLineRise s) :=
  ((setRun_frame s _).mono (by decide)).trans (.ite (membersChanged_frame _) (.refl _ _))

theorem closeCancelAt_frame (p : Pos) : OnlyChanges [.table, .stock, .closure, .attn] s (closeCancelAt p s).1 := by
  unfold closeCancelAt
  split
  · exact .refl _ s
  · split
    · exact .refl _ s
    · exact ((putRec_frame s p _).comp (setClosure_frame _ _) (ds := [.table, .closure])).comp (serve_frame _)

theorem reqCarriageHome_frame : OnlyChanges [.stock, .closure, .attn] s (reqCarriageHome s).1 := by
  unfold reqCarriageHome
  split
  · exact enterHoming_frame s
  · exact enterHoming_frame s
  all_goals exact .refl _ s

theorem reqClosureClear_frame : OnlyChanges [.stock, .closure, .attn] s (reqClosureClear s).1 := by
  unfold reqClosureClear
  split
  · exact enterHoming_frame s
  · exact .refl _ s

theorem stepExpiry_frame : OnlyChanges [.stock, .closure, .attn] s (stepExpiry s) := by
  unfold stepExpiry
  split
  · exact .ite ((homingStep_frame s).mono (by decide)) ((setClosure_frame s _).comp (raiseFault_frame _ _ _))
  · split
    · exact .ite (arrive_frame s _) ((takeStep_frame s _).mono (by decide))
    · exact .refl _ s
  · exact .refl _ s

theorem dwellExpiry_frame : OnlyChanges [.stock, .closure, .attn] s (dwellExpiry s) := by
  unfold dwellExpiry
  split
  · split
    · exact (setClosure_frame s _).comp (dwellOver_frame _ _)
    · exact .refl _ s
  · exact .refl _ s

theorem pressExpiry_frame : OnlyChanges [.table, .closure, .attn] s (pressExpiry s) := by
  unfold pressExpiry
  split
  · exact ((putRec_frame s _ _).comp (setClosure_frame _ _) (ds := [.table, .closure])).comp (raiseFault_frame _ _ _)
  · exact .refl _ s

theorem homeRise_frame : OnlyChanges [.stock, .closure, .attn] s (homeRise s) :=
  ((setClosure_frame s _).mono (by decide)).trans (.ite (reachHome_frame _) (.refl _ _))

theorem completePress_frame : OnlyChanges [.table, .stock, .closure, .attn] s (completePress s) := by
  unfold completePress
  split
  · exact (((putRec_frame s _ _).comp (setClosure_frame _ _) (ds := [.table, .closure])).comp (raiseClosed_frame _ _)
      (ds := [.table, .closure, .attn])).comp (serve_frame _)
  · exact .refl _ s

theorem pressDoneRise_frame : OnlyChanges [.table, .stock, .closure, .attn] s (pressDoneRise s) := by
  have heard : OnlyChanges [.table, .stock, .closure, .attn] s (s.setClosure { s.closure with pressDone := confirmed true }) :=
    (setClosure_frame s _).mono (by decide)
  unfold pressDoneRise
  simp only
  split
  · exact heard.trans (completePress_frame _)
  · exact heard

theorem afterSet_frame (id : Nat) (old : Settings) : OnlyChanges [.run, .closure, .attn] s (afterSet id old s) := by
  unfold afterSet
  split
  · exact .ite ((setRun_frame s _).mono (by decide)) (.refl _ s)
  · split
    · exact .ite ((setClosure_frame s _).mono (by decide)) (.refl _ s)
    · split
      · exact .ite ((setClosure_frame s _).mono (by decide)) (.refl _ s)
      · exact .ite ((putAttn_frame s _).mono (by decide)) (.refl _ s)

theorem reqSet_frame (id : Byte) (value : BitVec 32) : OnlyChanges [.settings, .run, .closure, .attn] s (reqSet id value s).1 := by
  unfold reqSet
  simp only
  split
  · exact .refl _ s
  · split
    · exact .refl _ s
    · split
      · exact .refl _ s
      · exact (setSettings_frame s _).comp (afterSet_frame _ _ _)

theorem editPlan_frame (points : List Point) : OnlyChanges [.plan, .table] s (editPlan points s) :=
  (setPlan_frame s _).comp (mapRecs_frame _ _)

theorem reqRollLoad_frame (slot : Byte) (first last : BitVec 32) : OnlyChanges [.stock] s (reqRollLoad slot first last s).1 := by
  unfold reqRollLoad
  simp only
  split
  · exact .refl _ s
  · split
    · exact .refl _ s
    · split
      · exact .refl _ s
      · split
        · exact .refl _ s
        · split
          · exact .refl _ s
          · exact setStock_frame s _

theorem reqRollDrop_frame (slot : Byte) : OnlyChanges [.stock, .attn] s (reqRollDrop slot s).1 := by
  unfold reqRollDrop
  simp only
  split
  · exact .refl _ s
  · split
    · exact .refl _ s
    · exact (setStock_frame s _).mono (by decide)
    · split
      · exact .refl _ s
      · exact (setStock_frame s _).comp (noteStockFall_frame _ _)

theorem tickTimers_frame : OnlyChanges [.front, .engine, .run, .closure, .panel] s (tickTimers s) := by
  refine ⟨rfl, fun b changed => ?_⟩
  cases b with
  | front | engine | run | closure | panel => simp at changed
  | straps | settings | link | attn | table | plan | stock => rfl

end Frames

theorem RecordPart.frame {s t : State} (h : RecordPart s t) : OnlyChanges [.table] s t := by
  cases h with
  | clear _ => exact setTable_frame s _
  | mount mr sense cls serial p => exact mountAt_frame s mr sense cls serial p
  | confirm p => exact confirmPosition_frame s p
  | setMeter mr sense cls p => exact setMeterAt_frame s mr sense cls p
  | retire p => exact retirePosition_frame s p
  | retest p => exact retestAt_frame s p
  | ackTag tag p => exact ackTagAt_frame s tag p
  | ackSpoiled tag p => exact ackSpoiledAt_frame s tag p

theorem RunPart.frame {s t : State} (h : RunPart s t) : OnlyChanges [.table, .engine, .run, .attn] s t := by
  cases h with
  | start => exact (reqRunStart_frame s).mono (by decide)
  | hold => exact (holdRun_frame s).mono (by decide)
  | resume => exact (resumeRun_frame s).mono (by decide)
  | abort => exact requestAbort_frame s
  | exclude p => exact excludeAt_frame s p
  | edge p => exact deliverEdge_frame s p
  | referenceLost => exact (referenceLost_frame s).mono (by decide)
  | pointExpiry => exact pointExpiry_frame s
  | latencyExpiry => exact (latencyExpiry_frame s).mono (by decide)
  | sourceExpiry => exact sourceExpiry_frame s
  | settleExpiry => exact (settleExpiry_frame s).mono (by decide)
  | phaseLowEnd => exact (phaseLowEnd_frame s).mono (by decide)
  | holdOffExpiry => exact holdOffExpiry_frame s
  | guardExpiry => exact guardExpiry_frame s
  | srcReadyRise => exact (srcReadyRise_frame s).mono (by decide)
  | srcReadyFall => exact srcReadyFall_frame s
  | phaseLineRise => exact (phaseLineRise_frame s).mono (by decide)
  | phaseLineFall => exact phaseLineFall_frame s
  | doneLineRise => exact doneLineRise_frame s
  | lines => exact (setRun_frame s _).mono (by decide)

theorem UnitPart.frame {s t : State} (h : UnitPart s t) : OnlyChanges [.table, .stock, .closure, .attn] s t := by
  cases h with
  | close p => exact closePosition_frame s p
  | closeCancel p => exact closeCancelAt_frame s p
  | carriageHome => exact (reqCarriageHome_frame s).mono (by decide)
  | closureClear => exact (reqClosureClear_frame s).mono (by decide)
  | stepExpiry => exact (stepExpiry_frame s).mono (by decide)
  | dwellExpiry => exact (dwellExpiry_frame s).mono (by decide)
  | pressExpiry => exact (pressExpiry_frame s).mono (by decide)
  | homeRise => exact (homeRise_frame s).mono (by decide)
  | pressDoneRise => exact pressDoneRise_frame s
  | lines => exact (setClosure_frame s _).mono (by decide)

/-- A part leaves the straps, the waiting commands and all of the link but the cursor as they are. -/
theorem Part.keeps {s t : State} (h : Part s t) : t.pending = s.pending ∧ t.straps = s.straps ∧
    ∃ cursor mark edit, t.link = { s.link with cursor := cursor, mark := mark, edit := edit } ∧
      (s.link.cursor ≤ 48 → s.link.mark ≤ 48 → cursor ≤ 48 ∧ mark ≤ 48) := by
  have framed : ∀ {bs : List Block}, OnlyChanges bs s t → Block.straps ∉ bs → Block.link ∉ bs → t.pending = s.pending ∧
      t.straps = s.straps ∧ ∃ cursor mark edit, t.link = { s.link with cursor := cursor, mark := mark, edit := edit } ∧
        (s.link.cursor ≤ 48 → s.link.mark ≤ 48 → cursor ≤ 48 ∧ mark ≤ 48) := fun frame straps link =>
    ⟨frame.1, frame.2 .straps straps, s.link.cursor, s.link.mark, s.link.edit, frame.2 .link link, fun c m => ⟨c, m⟩⟩
  cases h with
  | cursor cursor mark edit inside => exact ⟨rfl, rfl, cursor, mark, edit, rfl, inside⟩
  | front f => exact framed (setFront_frame s f) (by decide) (by decide)
  | panel v => exact framed (setPanel_frame s v) (by decide) (by decide)
  | attend a => exact framed (putAttn_frame s a) (by decide) (by decide)
  | set id value => exact framed (reqSet_frame s id value) (by decide) (by decide)
  | plan points => exact framed (editPlan_frame s points) (by decide) (by decide)
  | rollLoad slot first last => exact framed (reqRollLoad_frame s slot first last) (by decide) (by decide)
  | rollDrop slot => exact framed (reqRollDrop_frame s slot) (by decide) (by decide)
  | record h => exact framed h.frame (by decide) (by decide)
  | run h => exact framed h.frame (by decide) (by decide)
  | unit h => exact framed h.frame (by decide) (by decide)
  | tickTimers => exact framed (tickTimers_frame s) (by decide) (by decide)

theorem Part.receiver {s t : State} (h : Part s t) : t.link.receiver = s.link.receiver := by
  obtain ⟨-, -, cursor, mark, edit, link, -⟩ := h.keeps
  rw [link]

theorem Part.linkInOrder {s t : State} (h : Part s t) (order : LinkInOrder s.link) : LinkInOrder t.link := by
  obtain ⟨-, -, cursor, mark, edit, link, inside⟩ := h.keeps
  obtain ⟨held, quiet, txen, frame, cursorIn, markIn⟩ := order
  rw [link]
  exact ⟨held, quiet, txen, frame, inside cursorIn markIn⟩

theorem Parts.receiver {s t : State} (h : Parts s t) : t.link.receiver = s.link.receiver :=
  Parts.keep (law := fun u => u.link.receiver = s.link.receiver) (fun part same => part.receiver.trans same) h rfl

theorem Change.linkInOrder {s t : State} (h : Change s t) (order : LinkInOrder s.link) : LinkInOrder t.link := by
  cases h with
  | part h => exact h.linkInOrder order
  | link l inOrder => exact inOrder order

theorem Change.pending {s t : State} (h : Change s t) : t.pending = s.pending := by
  cases h with
  | part h => exact h.keeps.1
  | link => rfl

/-! ## Requests (R180 to R184) -/

/-- A SET with a row of its own is that row's SET of its id. -/
theorem exec_setRow (how : Addressing) (id : Byte) (value : BitVec 32) (s : State) :
    exec (setRow how id value) s = .next (request how 0x02 (reqSet id value) s) := by
  have named : ∀ n, id.toNat = n → id = BitVec.ofNat 8 n := fun n h => by rw [← h, BitVec.ofNat_toNat, BitVec.setWidth_eq]
  unfold setRow
  split
  case h_11 => rfl
  all_goals
    next at_id => rw [named _ at_id]; rfl

/-- The row of a request is its code and its owner's operation. -/
theorem exec_row (r : Request) (how : Addressing) (s : State) :
    exec (r.row how) s = .next (request how r.code (runRequest r) s) := by
  cases r with
  | set id value => exact exec_setRow how id value s
  | _ => rfl

theorem atPosition_parts {effect : Pos → State → State × Reply} (each : ∀ p s, Parts s (effect p s).1) (b : Byte) (s : State) :
    Parts s (atPosition b effect s).1 := by
  unfold atPosition
  split
  · exact each _ s
  · exact .refl

theorem reqBenchClear_parts (s : State) : Parts s (reqBenchClear s).1 := by
  unfold reqBenchClear
  split
  next => exact .refl
  next open_ =>
    exact (((Relation.ReflTransGen.single (.record (.clear open_))).tail (.cursor 0 0 false (by simp))).tail (.attend _)).tail
      (.panel _)

theorem reqAttend_parts (s : State) : Parts s (reqAttend s).1 := by
  unfold reqAttend
  simp only
  split
  · exact .refl
  · exact .single (.attend _)

theorem reqAttendDone_parts (level : Byte) (s : State) : Parts s (reqAttendDone level s).1 := by
  unfold reqAttendDone
  simp only
  split
  · exact .refl
  · split
    · exact .refl
    · exact .single (.attend _)

theorem readRecordAt_fst (sec : Byte) (p : Pos) (s : State) : (readRecordAt sec p s).1 = s := by
  unfold readRecordAt
  simp only
  split
  case h_6 => split <;> rfl
  all_goals rfl

theorem reqFind_fst (serial : List Byte) (s : State) : (reqFind serial s).1 = s := by
  unfold reqFind
  split
  · rfl
  · split <;> rfl

theorem reqPlanRead_fst (place : Byte) (s : State) : (reqPlanRead place s).1 = s := by
  unfold reqPlanRead
  split
  · rfl
  · split <;> rfl

theorem reqQueueRead_fst (start : Byte) (s : State) : (reqQueueRead start s).1 = s := by
  unfold reqQueueRead
  split <;> rfl

theorem reqGet_fst (id : Byte) (s : State) : (reqGet id s).1 = s := by
  unfold reqGet
  split <;> rfl

theorem reqCursorSet_parts (cursor : Byte) (s : State) : Parts s (reqCursorSet cursor s).1 := by
  unfold reqCursorSet
  split
  · exact .refl
  · next low =>
    split
    · exact .refl
    · exact .single (.cursor cursor.toNat s.link.mark s.link.edit fun _ mark => ⟨Nat.not_lt.mp low, mark⟩)

theorem positionsFrom_length (cursor k : Nat) : (positionsFrom cursor k).length = min k (48 - cursor) := by
  simp [positionsFrom]

theorem reqReadNext_parts (count : Byte) (s : State) : Parts s (reqReadNext count s).1 := by
  unfold reqReadNext
  simp only
  split
  · exact .refl
  · refine Parts.ite .refl (.single (.cursor _ s.link.mark s.link.edit fun cursor mark => ⟨?_, mark⟩))
    rw [positionsFrom_length]
    omega

theorem reqEditBegin_parts (s : State) : Parts s (reqEditBegin s).1 := by
  unfold reqEditBegin
  split
  · exact .refl
  · exact .single (.cursor s.link.cursor s.link.cursor true fun cursor _ => ⟨cursor, cursor⟩)

theorem reqEditEnd_parts (s : State) : Parts s (reqEditEnd s).1 := by
  unfold reqEditEnd
  split
  · exact .single (.cursor s.link.mark s.link.mark false fun _ mark => ⟨mark, mark⟩)
  · exact .refl

theorem reqSetMeterNext_parts (mr : BitVec 32) (sense cls : Byte) (s : State) : Parts s (reqSetMeterNext mr sense cls s).1 := by
  unfold reqSetMeterNext
  simp only
  split
  · next inside =>
    refine (Relation.ReflTransGen.single (.record (.setMeter mr sense cls _))).tail (.cursor (s.link.cursor + 1) _ _ fun _ mark => ?_)
    exact ⟨inside, mark⟩
  · exact .refl

/-- The longest plan an edit makes has as many points as the Store has places (R28, R35). -/
theorem reqPlanAppend_parts (form : PointForm) (s : State) : Parts s (reqPlanAppend form s).1 := by
  unfold reqPlanAppend
  split
  · exact .refl
  · split
    · exact .refl
    · next open_ =>
      split
      · exact .refl
      · exact .single (.plan _ open_ fun _ => by rw [List.length_append, List.length_singleton]; omega)

theorem reqPlanReplace_parts (place : Byte) (form : PointForm) (s : State) : Parts s (reqPlanReplace place form s).1 := by
  unfold reqPlanReplace
  split
  · exact .refl
  · split
    · exact .refl
    · split
      · exact .refl
      · next open_ =>
        split
        · exact .refl
        · exact .single (.plan _ open_ fun fits => by rwa [List.length_set])

theorem reqPlanClear_parts (s : State) : Parts s (reqPlanClear s).1 := by
  unfold reqPlanClear
  split
  · exact .refl
  · next open_ => exact .single (.plan _ open_ fun _ => Nat.zero_le _)

theorem reqPlanTruncate_parts (length : Byte) (s : State) : Parts s (reqPlanTruncate length s).1 := by
  unfold reqPlanTruncate
  split
  · exact .refl
  · next open_ => exact .single (.plan _ open_ fun fits => (List.length_take_le' _ _).trans fits)

theorem runRequest_parts (r : Request) (s : State) : Parts s (runRequest r s).1 := by
  cases r with
  | identify | stockRead | runStatus | closureStatus => exact .refl
  | set id value => exact .single (.set id value)
  | get id => exact (reqGet_fst id s).symm ▸ .refl
  | benchClear => exact reqBenchClear_parts s
  | attend => exact reqAttend_parts s
  | attendDone level => exact reqAttendDone_parts level s
  | mount position mr sense cls serial =>
    exact atPosition_parts (fun p _ => .single (.record (.mount mr sense cls serial p))) position s
  | confirm position => exact atPosition_parts (fun p _ => .single (.record (.confirm p))) position s
  | setMeter position mr sense cls =>
    exact atPosition_parts (fun p _ => .single (.record (.setMeter mr sense cls p))) position s
  | readRecord position sec => exact atPosition_parts (fun p s => (readRecordAt_fst sec p s).symm ▸ .refl) position s
  | find serial => exact (reqFind_fst serial s).symm ▸ .refl
  | retire position => exact atPosition_parts (fun p _ => .single (.record (.retire p))) position s
  | retest position => exact atPosition_parts (fun p _ => .single (.record (.retest p))) position s
  | exclude position => exact atPosition_parts (fun p _ => .single (.run (.exclude p))) position s
  | ackTag position tag => exact atPosition_parts (fun p _ => .single (.record (.ackTag tag p))) position s
  | ackSpoiled position tag => exact atPosition_parts (fun p _ => .single (.record (.ackSpoiled tag p))) position s
  | cursorSet cursor => exact reqCursorSet_parts cursor s
  | readNext count => exact reqReadNext_parts count s
  | editBegin => exact reqEditBegin_parts s
  | editEnd => exact reqEditEnd_parts s
  | setMeterNext mr sense cls => exact reqSetMeterNext_parts mr sense cls s
  | planClear => exact reqPlanClear_parts s
  | planAppend point => exact reqPlanAppend_parts point s
  | planReplace place point => exact reqPlanReplace_parts place point s
  | planRead place => exact (reqPlanRead_fst place s).symm ▸ .refl
  | planTruncate length => exact reqPlanTruncate_parts length s
  | runStart => exact .single (.run .start)
  | runHold => exact .single (.run .hold)
  | runResume => exact .single (.run .resume)
  | runAbort => exact .single (.run .abort)
  | rollLoad slot first last => exact .single (.rollLoad slot first last)
  | rollDrop slot => exact .single (.rollDrop slot)
  | close position => exact atPosition_parts (fun p _ => .single (.unit (.close p))) position s
  | closeCancel position => exact atPosition_parts (fun p _ => .single (.unit (.closeCancel p))) position s
  | queueRead start => exact (reqQueueRead_fst start s).symm ▸ .refl
  | carriageHome => exact .single (.unit .carriageHome)
  | closureClear => exact .single (.unit .closureClear)

/-! ## Characters (R180 to R183) -/

theorem linkInOrder_taken {l : Link} (take : l.receiver ≠ .responding) (order : LinkInOrder l) : LinkInOrder (takenLink l) := by
  obtain ⟨-, -, txen, -, inside⟩ := order
  exact ⟨by simp [takenLink], fun _ => rfl, by simp [takenLink, txen, take], rfl, inside⟩

theorem linkInOrder_respond {l : Link} {reply : Reply} (idle : l.receiver = .idle) (order : LinkInOrder l) :
    LinkInOrder { l with response := some reply, quiet := true } := by
  obtain ⟨-, -, txen, frame, inside⟩ := order
  exact ⟨by simp, fun _ => idle, txen, frame, inside⟩

theorem request_changes {how : Addressing} {code : Nat} {effect : State → State × Reply} (each : ∀ s, Parts s (effect s).1)
    (s : State) : Changes s (request how code effect s) := by
  unfold request
  split
  next => exact .refl
  next take =>
    have taken : Changes s (s.setLink (takenLink s.link)) := .link _ (linkInOrder_taken take) nofun
    have done : Parts (s.setLink (takenLink s.link)) (effect (s.setLink (takenLink s.link))).1 := each _
    cases how with
    | addressed => exact (taken.trans done.changes).trans (Changes.link _ (linkInOrder_respond done.receiver) id)
    | broadcast => exact Changes.ite (taken.trans done.changes) taken

theorem frameEffect_parts (cmd : Byte) (params : List Byte) (s : State) : Parts s (frameEffect cmd params s).1 := by
  unfold frameEffect
  split
  · exact .refl
  · exact .refl
  · exact runRequest_parts _ s

theorem linkInOrder_receiver {l : Link} {receiver : Receiver} {gap : Bool} {rxWait : RxWait} (take : l.receiver ≠ .responding)
    (idle : l.quiet = true → l.receiver = .idle → receiver = .idle) (silent : receiver ≠ .responding)
    (frame : FrameInOrder receiver gap) (order : LinkInOrder l) :
    LinkInOrder { l with receiver := receiver, gap := gap, rxWait := rxWait } := by
  obtain ⟨held, quiet, txen, -, inside⟩ := order
  refine ⟨?_, fun h => idle h (quiet h), ?_, frame, inside⟩
  · simpa [take, silent] using held
  · simpa [take, silent] using txen

section Characters
variable {s : State}

theorem abandonFrame_changes {how : Addressing} {frame : List Byte} (listening : s.link.receiver = .listening how frame) :
    Changes s (s.setLink (abandonFrame s.link)) :=
  .link _ (linkInOrder_receiver (by simp [listening]) (fun _ _ => rfl) (by simp) rfl) nofun

theorem frameComplete_changes {how : Addressing} {buffer : List Byte} (listening : s.link.receiver = .listening how buffer)
    (frame : List Byte) : Changes s (frameComplete how frame s) := by
  unfold frameComplete
  split
  · split
    · exact request_changes (frameEffect_parts _ _) s
    · exact abandonFrame_changes listening
  · exact abandonFrame_changes listening

theorem frameCharacter_changes {how : Addressing} {frame : List Byte} (listening : s.link.receiver = .listening how frame)
    (value : Byte) : Changes s (frameCharacter how frame value s) := by
  have take : s.link.receiver ≠ .responding := by simp [listening]
  unfold frameCharacter
  split
  · split
    · exact abandonFrame_changes listening
    · next inside =>
      have frame : frameOpen [value] := ⟨by omega, by omega, by simp⟩
      exact .link _ (linkInOrder_receiver take (by simp [listening]) (by simp) frame) nofun
  · simp only
    split
    · exact frameComplete_changes listening _
    · next short =>
      refine .link _ (fun order => linkInOrder_receiver take (by simp [listening]) (by simp) ?_ order) nofun
      obtain ⟨-, -, -, open_, -⟩ := order
      rw [listening] at open_
      obtain ⟨low, high, -⟩ := open_
      refine ⟨low, high, ?_⟩
      simp at short ⊢
      omega

theorem dataCharacter_changes (value : Byte) (s : State) : Changes s (dataCharacter value s) := by
  unfold dataCharacter
  split
  · exact .refl
  · split
    · next listening => exact frameCharacter_changes listening value
    · exact .refl

theorem addressCharacter_changes (value : Byte) (s : State) : Changes s (addressCharacter value s) := by
  unfold addressCharacter
  simp only
  split
  · exact .refl
  · next take =>
    have take : s.link.receiver ≠ .responding := fun h => take (by simp [receiving, h])
    have silenced : LinkInOrder s.link → LinkInOrder (takenLink s.link) := linkInOrder_taken take
    split
    · exact .link _ (fun order => linkInOrder_receiver nofun nofun (by simp) trivial (silenced order)) nofun
    · exact .link _ (fun order => linkInOrder_receiver nofun nofun (by simp) rfl (silenced order)) nofun

theorem framingError_changes (s : State) : Changes s (framingError s) := by
  unfold framingError
  simp only
  split
  · exact .refl
  · next take =>
    have take : s.link.receiver ≠ .responding := fun h => take (by simp [receiving, h])
    split
    · exact .link _ (linkInOrder_receiver take (fun _ _ => rfl) (by simp) rfl) nofun
    · exact .link _ id id

theorem gapExpiry_changes (s : State) : Changes s (gapExpiry s) := by
  unfold gapExpiry
  split
  · next listening => exact abandonFrame_changes listening
  · exact .refl

theorem quietExpiry_frame (s : State) : OnlyChanges [.link] s (quietExpiry s) := by
  unfold quietExpiry
  split
  · exact setLink_frame s _
  · exact .refl _ s

theorem linkInOrder_quietExpiry (order : LinkInOrder s.link) : LinkInOrder (quietExpiry s).link := by
  unfold quietExpiry
  split
  · next running =>
    obtain ⟨held, quiet, -, frame, inside⟩ := order
    rw [quiet running] at frame
    exact ⟨by simp [held.mpr (.inl running)], fun h => by simp at h, by simp, frame, inside⟩
  · exact order

theorem responseSent_changes (s : State) : Changes s (responseSent s) := by
  unfold responseSent
  split
  · next responding =>
    refine .link _ (fun order => ?_) nofun
    obtain ⟨-, quiet, -, frame, inside⟩ := order
    rw [responding] at frame quiet
    have silent : s.link.quiet = false := by simpa using quiet
    exact ⟨by simp [silent], fun _ => rfl, by simp, frame, inside⟩
  · exact .refl

theorem startBitAccepted_changes (s : State) : Changes s (startBitAccepted s) := by
  refine Changes.ite (.link _ (fun order => ?_) id) .refl
  obtain ⟨held, quiet, txen, frame, inside⟩ := order
  exact ⟨held, quiet, txen, frame.stop_gap, inside⟩

theorem rxdHigh_changes (s : State) : Changes s (rxdHigh s) := Changes.ite .refl (.link _ id id)

end Characters

/-! ## Meter edges and samples (R47 to R51) -/

theorem slotChange_parts (slot : Pos) (level : Bool) (s : State) : Parts s (slotChange slot level s) := by
  have confirm : Parts s (putFilter slot (confirmed level) s) := .single (.front _)
  unfold slotChange
  simp only
  split
  · exact Parts.ite (confirm.tail (.run (.edge _))) confirm
  · exact confirm

theorem meterEdge_parts (slot : Pos) (s : State) : Parts s (meterEdge slot s) := by
  unfold meterEdge
  split
  · exact slotChange_parts slot _ s
  · exact .refl

theorem sampleAll_parts (inputs : BitVec 48) (s : State) : Parts s (sampleAll inputs s) :=
  (Parts.foldl (fun _ slot => Parts.ite (slotChange_parts slot _ _) (.single (.front _))) _ s).tail (.front _)

theorem presenceExpiry_parts (s : State) : Parts s (presenceExpiry s) :=
  Parts.ite ((Relation.ReflTransGen.single (.front _)).tail (.run .referenceLost)) .refl

/-! ## Lines (R89, R112, R144) -/

section Lines
variable (s : State) (level : Bool)

theorem lineEvent_parts {f : Filter} {effect : State → State} (h : Parts s (effect s)) : Parts s (lineEvent f level effect s) :=
  Parts.ite h .refl

theorem readPhase_parts : Parts s (readPhase level s) :=
  .single (.run (.lines s.run.srcReady s.run.phaseLine s.run.doneLine level s.run.doneReading))

theorem readDone_parts : Parts s (readDone level s) :=
  .single (.run (.lines s.run.srcReady s.run.phaseLine s.run.doneLine s.run.phaseReading level))

theorem doneLineFall_parts : Parts s (doneLineFall s) :=
  .single (.run (.lines s.run.srcReady s.run.phaseLine (confirmed false) s.run.phaseReading s.run.doneReading))

theorem homeFall_parts : Parts s (homeFall s) := .single (.unit (.lines (confirmed false) s.closure.pressDone))

theorem pressDoneFall_parts : Parts s (pressDoneFall s) := .single (.unit (.lines s.closure.home (confirmed false)))

theorem cascadeEvent_parts {f : Filter} {effect : State → State} (h : ∀ s, Parts s (effect s)) :
    Parts s (cascadeEvent f level effect s) :=
  Parts.ite .refl (lineEvent_parts s level (h s))

theorem sampleSrcReady_parts : Parts s (sampleSrcReady level s) :=
  Parts.ite (Parts.ite (.single (.run .srcReadyRise)) (.single (.run .srcReadyFall)))
    (.single (.run (.lines (sampleFilter s.run.srcReady level) s.run.phaseLine s.run.doneLine s.run.phaseReading s.run.doneReading)))

theorem sampleHome_parts : Parts s (sampleHome level s) :=
  Parts.ite (Parts.ite (.single (.unit .homeRise)) (homeFall_parts s))
    (.single (.unit (.lines (sampleFilter s.closure.home level) s.closure.pressDone)))

theorem samplePressDone_parts : Parts s (samplePressDone level s) :=
  Parts.ite (Parts.ite (.single (.unit .pressDoneRise)) (pressDoneFall_parts s))
    (.single (.unit (.lines s.closure.home (sampleFilter s.closure.pressDone level))))

theorem samplePhase_parts : Parts s (samplePhase level s) :=
  (readPhase_parts s level).trans <| Parts.ite .refl <|
    Parts.ite (Parts.ite (.single (.run .phaseLineRise)) (.single (.run .phaseLineFall)))
      (.single (.run (.lines s.run.srcReady (sampleFilter s.run.phaseLine level) s.run.doneLine level s.run.doneReading)))

theorem sampleDone_parts : Parts s (sampleDone level s) :=
  (readDone_parts s level).trans <| Parts.ite .refl <|
    Parts.ite (Parts.ite (.single (.run .doneLineRise)) (doneLineFall_parts _))
      (.single (.run (.lines s.run.srcReady s.run.phaseLine (sampleFilter s.run.doneLine level) s.run.phaseReading level)))

end Lines

/-! ## The panel (R163 to R175) -/

theorem raiseOperator_parts (news : OperatorNews) (s : State) : Parts s (raiseOperator news s) := .single (.attend _)

theorem startFlash_parts (slot : Pos) (s : State) : Parts s (startFlash slot s) := .single (.panel _)

theorem loadKeyAt_parts (slot p : Pos) (s : State) : Parts s (loadKeyAt slot p s) := by
  have asked : Parts s (confirmPosition p s).1 := .single (.record (.confirm p))
  unfold loadKeyAt
  split <;> next u _ answer =>
    rw [answer] at asked
    exact asked.trans (.single (by first | exact .attend _ | exact .panel _))

theorem closeKeyAt_parts (slot p : Pos) (s : State) : Parts s (closeKeyAt slot p s) := by
  have asked : Parts s (closePosition p s).1 := .single (.unit (.close p))
  unfold closeKeyAt
  split
  next u answer => rwa [answer] at asked
  next u st _ answer =>
    rw [answer] at asked
    exact asked.trans (startFlash_parts slot u)

theorem removeKeyAt_parts (slot p : Pos) (s : State) : Parts s (removeKeyAt slot p s) := by
  have asked : Parts s (retirePosition p s).1 := .single (.record (.retire p))
  unfold removeKeyAt
  split
  next u answer =>
    rw [answer] at asked
    exact asked.trans (raiseOperator_parts _ u)
  next u answer =>
    rw [answer] at asked
    exact (asked.trans (startFlash_parts slot u)).trans (raiseOperator_parts _ _)
  next u st _ _ answer =>
    rw [answer] at asked
    exact asked.trans (startFlash_parts slot u)

theorem positionKeyActs_parts (slot : Pos) (s : State) : Parts s (positionKeyActs slot s) := by
  unfold positionKeyActs
  simp only
  split
  · exact .refl
  · exact loadKeyAt_parts _ _ s
  · exact closeKeyAt_parts _ _ s
  · exact removeKeyAt_parts _ _ s

theorem confirmPress_parts (k : Fin 56) (s : State) : Parts s (confirmPress k s) :=
  (Relation.ReflTransGen.single (.panel _)).trans (Parts.ite .refl (.single (.panel _)))

theorem pressKey_parts {k : Fin 56} {act : State → State} (h : ∀ s, Parts s (act s)) (s : State) : Parts s (pressKey k act s) :=
  Parts.ite .refl (Parts.ite ((confirmPress_parts k s).trans (h _)) (confirmPress_parts k s))

theorem releaseKey_parts (k : Fin 56) (s : State) : Parts s (releaseKey k s) := Parts.ite (.single (.panel _)) .refl

theorem keyActs_parts (k : Fin 56) (s : State) : Parts s (keyActs k s) := by
  unfold keyActs
  split
  · exact positionKeyActs_parts _ s
  · split
    · exact .single (.panel _)
    · exact .single (.panel _)
    · exact .single (.panel _)
    · exact .single (.run .hold)
    · exact .single (.run .resume)
    · exact .single (.run .abort)
    · exact .single (.panel _)
    · exact .single (.panel _)

theorem sampleKey_parts (column : Fin 8) (rows : BitVec 7) (s : State) (row : Fin 7) : Parts s (sampleKey column rows s row) :=
  Parts.ite (Parts.ite ((confirmPress_parts _ s).tail (.panel _)) (releaseKey_parts _ s)) (.single (.panel _))

theorem endScan_parts (s : State) : Parts s (endScan s) := by
  have cleared : Parts s (s.setPanel { s.panel with scanPresses := 0, scanBarred := false }) := .single (.panel _)
  unfold endScan
  simp only
  split
  · exact cleared.trans (keyActs_parts _ _)
  · exact cleared

theorem endColumn_parts (rows : BitVec 7) (s : State) : Parts s (endColumn rows s) :=
  (((Parts.foldl (fun s => sampleKey_parts _ rows s) _ s).trans (Parts.ite (endScan_parts _) .refl)).tail (.panel _)).tail (.panel _)

/-! ## The tick (R1) -/

theorem takeOverdue_parts {expiry : State → State} (h : ∀ s, Parts s (expiry s)) (before : Option Timer) (s : State) :
    Parts s (takeOverdue before expiry s) := Parts.ite (h s) .refl

theorem modeExpiry_parts (s : State) : Parts s (modeExpiry s) := Parts.ite (.single (.panel _)) .refl

theorem flashExpiry_parts (slot : Pos) (s : State) : Parts s (flashExpiry slot s) := Parts.ite (.single (.panel _)) .refl

theorem lampTestExpiry_parts (s : State) : Parts s (lampTestExpiry s) := Parts.ite (.single (.panel _)) .refl

theorem takeExpiries_parts (before s : State) : Parts s (takeExpiries before s) := by
  unfold takeExpiries
  refine .trans ?_ (takeOverdue_parts lampTestExpiry_parts _ _)
  refine .trans ?_ (Parts.foldl (fun s slot => takeOverdue_parts (flashExpiry_parts slot) _ s) _ _)
  refine .trans ?_ (takeOverdue_parts modeExpiry_parts _ _)
  refine .trans ?_ (takeOverdue_parts (fun _ => .single (.unit .pressExpiry)) _ _)
  refine .trans ?_ (takeOverdue_parts (fun _ => .single (.unit .dwellExpiry)) _ _)
  refine .trans ?_ (takeOverdue_parts (fun _ => .single (.unit .stepExpiry)) _ _)
  refine .trans ?_ (takeOverdue_parts (fun _ => .single (.run .guardExpiry)) _ _)
  refine .trans ?_ (takeOverdue_parts (fun _ => .single (.run .holdOffExpiry)) _ _)
  refine .trans ?_ (takeOverdue_parts (fun _ => .single (.run .phaseLowEnd)) _ _)
  refine .trans ?_ (takeOverdue_parts (fun _ => .single (.run .settleExpiry)) _ _)
  refine .trans ?_ (takeOverdue_parts (fun _ => .single (.run .sourceExpiry)) _ _)
  refine .trans ?_ (takeOverdue_parts (fun _ => .single (.run .latencyExpiry)) _ _)
  refine .trans ?_ (takeOverdue_parts (fun _ => .single (.run .pointExpiry)) _ _)
  exact takeOverdue_parts presenceExpiry_parts _ _

theorem tick_parts (srcReady home pressDone phase done : Bool) (rows : BitVec 7) (s : State) :
    Parts s (tick srcReady home pressDone phase done rows s) := by
  unfold tick
  refine .trans ?_ (endColumn_parts rows _)
  refine .trans ?_ (sampleDone_parts _ done)
  refine .trans ?_ (samplePhase_parts _ phase)
  refine .trans ?_ (samplePressDone_parts _ pressDone)
  refine .trans ?_ (sampleHome_parts _ home)
  refine .trans ?_ (sampleSrcReady_parts _ srcReady)
  refine .trans ?_ (takeExpiries_parts s _)
  exact (Relation.ReflTransGen.single .tickTimers).tail (.panel _)

/-! ## Every command -/

/-- A command is FULL_RESET, or the end of the quiet time, or it is a chain of changes. -/
theorem exec_changes (c : Instr) (s : State) :
    (∃ station role rate, c = .fullReset station role rate) ∨ exec c s = .next (quietExpiry s) ∨
      ∃ t, exec c s = .next t ∧ Changes s t := by
  have ask : ∀ (r : Request) (how : Addressing), ∃ t, exec (r.row how) s = .next t ∧ Changes s t := fun r how =>
    ⟨_, exec_row r how s, request_changes (runRequest_parts r) s⟩
  have put : ∀ (how : Addressing) (id : Byte) (value : BitVec 32),
      Changes s (request how 0x02 (reqSet id value) s) := fun how id value => request_changes (fun _ => .single (.set id value)) s
  cases c with
  | fullReset station role rate => exact .inl ⟨station, role, rate, rfl⟩
  | addressCharacter value => exact .inr (.inr ⟨_, rfl, addressCharacter_changes value s⟩)
  | dataCharacter value => exact .inr (.inr ⟨_, rfl, dataCharacter_changes value s⟩)
  | framingError => exact .inr (.inr ⟨_, rfl, framingError_changes s⟩)
  | gapTimerExpiry => exact .inr (.inr ⟨_, rfl, gapExpiry_changes s⟩)
  | quietTimerExpiry => exact .inr (.inl rfl)
  | responseSent => exact .inr (.inr ⟨_, rfl, responseSent_changes s⟩)
  | startBitAccepted => exact .inr (.inr ⟨_, rfl, startBitAccepted_changes s⟩)
  | rxdHighInterval => exact .inr (.inr ⟨_, rfl, rxdHigh_changes s⟩)
  | identify how => exact .inr (.inr (ask .identify how))
  | set how id value => exact .inr (.inr ⟨_, rfl, put how id value⟩)
  | setOrient how value | setSampleRate how value | setRefSelect how value | setRefWindow how value | setRestCode how value
  | setExcitation how value | setPitch how value | setHomeOffset how value | setTravel how value | setAttnMask how value =>
    exact .inr (.inr ⟨_, rfl, put how _ value⟩)
  | get how id => exact .inr (.inr (ask (.get id) how))
  | benchClear how => exact .inr (.inr (ask .benchClear how))
  | attend how => exact .inr (.inr (ask .attend how))
  | attendDone how level => exact .inr (.inr (ask (.attendDone level) how))
  | mount how position mr sense cls serial => exact .inr (.inr (ask (.mount position mr sense cls serial) how))
  | confirm how position => exact .inr (.inr (ask (.confirm position) how))
  | setMeter how position mr sense cls => exact .inr (.inr (ask (.setMeter position mr sense cls) how))
  | readRecord how position sec => exact .inr (.inr (ask (.readRecord position sec) how))
  | find how serial => exact .inr (.inr (ask (.find serial) how))
  | retire how position => exact .inr (.inr (ask (.retire position) how))
  | retest how position => exact .inr (.inr (ask (.retest position) how))
  | exclude how position => exact .inr (.inr (ask (.exclude position) how))
  | ackTag how position tag => exact .inr (.inr (ask (.ackTag position tag) how))
  | ackSpoiled how position tag => exact .inr (.inr (ask (.ackSpoiled position tag) how))
  | cursorSet how cursor => exact .inr (.inr (ask (.cursorSet cursor) how))
  | readNext how count => exact .inr (.inr (ask (.readNext count) how))
  | editBegin how => exact .inr (.inr (ask .editBegin how))
  | editEnd how => exact .inr (.inr (ask .editEnd how))
  | setMeterNext how mr sense cls => exact .inr (.inr (ask (.setMeterNext mr sense cls) how))
  | planClear how => exact .inr (.inr (ask .planClear how))
  | planAppend how point => exact .inr (.inr (ask (.planAppend point) how))
  | planReplace how place point => exact .inr (.inr (ask (.planReplace place point) how))
  | planRead how place => exact .inr (.inr (ask (.planRead place) how))
  | planTruncate how length => exact .inr (.inr (ask (.planTruncate length) how))
  | runStart how => exact .inr (.inr (ask .runStart how))
  | runHold how => exact .inr (.inr (ask .runHold how))
  | runResume how => exact .inr (.inr (ask .runResume how))
  | runAbort how => exact .inr (.inr (ask .runAbort how))
  | runStatus how => exact .inr (.inr (ask .runStatus how))
  | rollLoad how slot first last => exact .inr (.inr (ask (.rollLoad slot first last) how))
  | rollDrop how slot => exact .inr (.inr (ask (.rollDrop slot) how))
  | stockRead how => exact .inr (.inr (ask .stockRead how))
  | close how position => exact .inr (.inr (ask (.close position) how))
  | closeCancel how position => exact .inr (.inr (ask (.closeCancel position) how))
  | queueRead how start => exact .inr (.inr (ask (.queueRead start) how))
  | carriageHome how => exact .inr (.inr (ask .carriageHome how))
  | closureClear how => exact .inr (.inr (ask .closureClear how))
  | closureStatus how => exact .inr (.inr (ask .closureStatus how))
  | meterEdge slot => exact .inr (.inr ⟨_, rfl, Parts.changes (meterEdge_parts slot s)⟩)
  | referenceEdge input spacing => exact .inr (.inr ⟨_, rfl, Parts.changes (Parts.ite (.single (.front _)) .refl)⟩)
  | presenceWindowExpiry => exact .inr (.inr ⟨_, rfl, Parts.changes (presenceExpiry_parts s)⟩)
  | pointTimerExpiry => exact .inr (.inr ⟨_, rfl, Parts.changes (.single (.run .pointExpiry))⟩)
  | srcReadyRise => exact .inr (.inr ⟨_, rfl, Parts.changes (lineEvent_parts s _ (.single (.run .srcReadyRise)))⟩)
  | srcReadyFall => exact .inr (.inr ⟨_, rfl, Parts.changes (lineEvent_parts s _ (.single (.run .srcReadyFall)))⟩)
  | latencyTimerExpiry => exact .inr (.inr ⟨_, rfl, Parts.changes (.single (.run .latencyExpiry))⟩)
  | sourceTimerExpiry => exact .inr (.inr ⟨_, rfl, Parts.changes (.single (.run .sourceExpiry))⟩)
  | settleTimerExpiry => exact .inr (.inr ⟨_, rfl, Parts.changes (.single (.run .settleExpiry))⟩)
  | phaseLowIntervalEnd => exact .inr (.inr ⟨_, rfl, Parts.changes (.single (.run .phaseLowEnd))⟩)
  | cascadeHoldOffExpiry => exact .inr (.inr ⟨_, rfl, Parts.changes (.single (.run .holdOffExpiry))⟩)
  | guardTimerExpiry => exact .inr (.inr ⟨_, rfl, Parts.changes (.single (.run .guardExpiry))⟩)
  | doneRise => exact .inr (.inr ⟨_, rfl, Parts.changes ((readDone_parts s true).trans (cascadeEvent_parts _ _ fun _ => .single (.run .doneLineRise)))⟩)
  | doneFall => exact .inr (.inr ⟨_, rfl, Parts.changes ((readDone_parts s false).trans (cascadeEvent_parts _ _ doneLineFall_parts))⟩)
  | phaseRise => exact .inr (.inr ⟨_, rfl, Parts.changes ((readPhase_parts s true).trans (cascadeEvent_parts _ _ fun _ => .single (.run .phaseLineRise)))⟩)
  | phaseFall => exact .inr (.inr ⟨_, rfl, Parts.changes ((readPhase_parts s false).trans (cascadeEvent_parts _ _ fun _ => .single (.run .phaseLineFall)))⟩)
  | stepTimerExpiry => exact .inr (.inr ⟨_, rfl, Parts.changes (.single (.unit .stepExpiry))⟩)
  | homeRise => exact .inr (.inr ⟨_, rfl, Parts.changes (lineEvent_parts s _ (.single (.unit .homeRise)))⟩)
  | homeFall => exact .inr (.inr ⟨_, rfl, Parts.changes (lineEvent_parts s _ (homeFall_parts s))⟩)
  | dwellTimerExpiry => exact .inr (.inr ⟨_, rfl, Parts.changes (.single (.unit .dwellExpiry))⟩)
  | pressDoneRise => exact .inr (.inr ⟨_, rfl, Parts.changes (lineEvent_parts s _ (.single (.unit .pressDoneRise)))⟩)
  | pressDoneFall => exact .inr (.inr ⟨_, rfl, Parts.changes (lineEvent_parts s _ (pressDoneFall_parts s))⟩)
  | pressTimerExpiry => exact .inr (.inr ⟨_, rfl, Parts.changes (.single (.unit .pressExpiry))⟩)
  | loadKey | closeKey | removeKey | lampTestKey | cancelKey => exact .inr (.inr ⟨_, rfl, Parts.changes (pressKey_parts (fun _ => .single (.panel _)) s)⟩)
  | holdKey => exact .inr (.inr ⟨_, rfl, Parts.changes (pressKey_parts (fun _ => .single (.run .hold)) s)⟩)
  | resumeKey => exact .inr (.inr ⟨_, rfl, Parts.changes (pressKey_parts (fun _ => .single (.run .resume)) s)⟩)
  | stopKey => exact .inr (.inr ⟨_, rfl, Parts.changes (pressKey_parts (fun _ => .single (.run .abort)) s)⟩)
  | positionKey key => exact .inr (.inr ⟨_, rfl, Parts.changes (pressKey_parts (positionKeyActs_parts key) s)⟩)
  | keyRelease key => exact .inr (.inr ⟨_, rfl, Parts.changes (releaseKey_parts key s)⟩)
  | modeTimerExpiry => exact .inr (.inr ⟨_, rfl, Parts.changes (modeExpiry_parts s)⟩)
  | refusalFlashExpiry slot => exact .inr (.inr ⟨_, rfl, Parts.changes (flashExpiry_parts slot s)⟩)
  | lampTestExpiry => exact .inr (.inr ⟨_, rfl, Parts.changes (lampTestExpiry_parts s)⟩)
  | sampleInstant inputs => exact .inr (.inr ⟨_, rfl, Parts.changes (sampleAll_parts inputs s)⟩)
  | millisecondTick srcReady home pressDone phase done rows =>
    exact .inr (.inr ⟨_, rfl, Parts.changes (tick_parts srcReady home pressDone phase done rows s)⟩)
  | keyPressNotActing key => exact .inr (.inr ⟨_, rfl, Parts.changes (Parts.ite .refl (confirmPress_parts key s))⟩)

end Sys2Proof.Machine
end

section
/-! PROOF. ATN and the link keep their laws (R181, R183, R190, R195), over the packaged induction: a law that holds after FULL_RESET and is
kept by every change is kept by every step. With it what every step and every command answer. -/

namespace Sys2Proof.Machine

/-! ## Steps -/

theorem step_nil {s : State} (h : s.pending = []) : step s = .next s := by
  unfold step
  split
  · rfl
  · next waits => rw [h] at waits; cases waits

theorem step_cons {s : State} {c : Instr} {rest : List Instr} (h : s.pending = c :: rest) :
    step s = exec c { s with pending := rest } := by
  unfold step
  split
  · next waits => rw [h] at waits; cases waits
  · next waits => rw [h] at waits; cases waits; rfl

/-- What every command does: it resets the part, or begins the response, or makes a chain of changes. -/
theorem exec_next {c : Instr} {s t : State} (h : exec c s = .next t) :
    (∃ straps, t = fullReset straps s) ∨ t = quietExpiry s ∨ Changes s t := by
  rcases exec_changes c s with ⟨station, role, rate, rfl⟩ | done | ⟨u, done, changes⟩
  · cases h
    exact .inl ⟨_, rfl⟩
  · rw [done] at h
    cases h
    exact .inr (.inl rfl)
  · rw [done] at h
    cases h
    exact .inr (.inr changes)

/-- The packaged induction over what a step does. -/
theorem step_keeps {law : State → Prop} {s t : State} (pop : ∀ rest, law s → law { s with pending := rest })
    (reset : ∀ straps u, law (fullReset straps u)) (speak : ∀ u, law u → law (quietExpiry u))
    (each : ∀ {u v}, Change u v → law u → law v) (h : law s) (next : step s = .next t) : law t := by
  cases waits : s.pending with
  | nil =>
    rw [step_nil waits] at next
    cases next
    exact h
  | cons c rest =>
    rw [step_cons waits] at next
    rcases exec_next next with ⟨straps, rfl⟩ | rfl | changes
    · exact reset straps _
    · exact speak _ (pop rest h)
    · exact changes.keep each (pop rest h)

theorem fullReset_pending (straps : Straps) (s : State) : (fullReset straps s).pending = s.pending := by
  unfold fullReset
  split <;> rfl

/-- After FULL_RESET every block but the run is as it is at power-on, and the run differs in the 3 ms of PHASE alone. -/
theorem fullReset_eq (straps : Straps) (s : State) :
    fullReset straps s = (State.initial straps s.pending).setRun { Run.initial with
      phaseLow := if s.run.phaseHigh = true ∧ straps.role = .master then some ⟨3, 3⟩ else none } := by
  unfold fullReset
  split <;> rfl

/-- Settles O1. -/
theorem stepRunsTheFrontCommand : Obligations.StepRunsTheFrontCommand :=
  ⟨fun _ _ _ => step_cons rfl, fun _ => step_nil⟩

/-! ## ATN (R194, R195) -/

section Atn
variable {s t : State}

theorem AtnLaw.frame {bs : List Block} (h : AtnLaw s) (frame : OnlyChanges bs s t) (settings : Block.settings ∉ bs := by decide)
    (attn : Block.attn ∉ bs := by decide) : AtnLaw t := by
  have same_settings : t.settings = s.settings := frame.2 .settings settings
  have same_attn : t.attn = s.attn := frame.2 .attn attn
  simpa only [AtnLaw, exists_calls_iff, same_settings, same_attn] using h

theorem AtnLaw.ite {c : Prop} [Decidable c] {u : State} (h : AtnLaw t) (k : AtnLaw u) : AtnLaw (if c then t else u) := by
  split
  · exact h
  · exact k

theorem atnLaw_completeRun (s : State) : AtnLaw (completeRun s) := atnLaw_putAttn _ _

theorem atnLaw_abortRun (s : State) : AtnLaw (abortRun s) := atnLaw_putAttn _ _

theorem AtnLaw.afterPoint (h : AtnLaw s) : AtnLaw (afterPoint s) := by
  unfold Machine.afterPoint
  split
  · exact atnLaw_completeRun s
  · split
    · exact h.frame (setRun_frame s _)
    · exact (h.frame (setRun_frame s _)).frame (enterSourcing_frame _)

theorem atnLaw_endPoint (s : State) : AtnLaw (endPoint s) := (atnLaw_putAttn _ _).afterPoint

theorem AtnLaw.membersChanged (h : AtnLaw s) : AtnLaw (membersChanged s) := by
  unfold Machine.membersChanged
  split
  · exact h.frame (setRun_frame s _)
  · exact (atnLaw_endPoint _).ite h

theorem AtnLaw.firePress (h : AtnLaw s) (target : Nat) : AtnLaw (firePress target s) := by
  unfold Machine.firePress
  split
  · exact h
  · exact (atnLaw_putAttn _ _).ite ((h.frame (setStock_frame s _)).frame (setClosure_frame _ _))

theorem AtnLaw.dwellOver (h : AtnLaw s) (target : Nat) : AtnLaw (dwellOver target s) := by
  unfold Machine.dwellOver
  split
  · exact h
  · exact (atnLaw_putAttn _ _).ite (h.firePress target)

theorem AtnLaw.arrive (h : AtnLaw s) (m : Move) : AtnLaw (arrive m s) :=
  ((h.frame (setClosure_frame s _)).dwellOver _).ite (h.frame (setClosure_frame s _))

theorem AtnLaw.serve (h : AtnLaw s) : AtnLaw (serve s) := by
  unfold Machine.serve
  split
  · exact h.ite ((h.arrive _).ite (h.frame (takeStep_frame s _)))
  · exact h

theorem AtnLaw.enterHoming (h : AtnLaw s) : AtnLaw (enterHoming s) := by
  have entered : AtnLaw (s.setClosure { s.closure with unit := .homing, energised := true, tally := 0 }) :=
    h.frame (setClosure_frame s _)
  exact (entered.frame (setClosure_frame _ _)).serve.ite (entered.frame (homingStep_frame _))

theorem AtnLaw.runPart (h : AtnLaw s) (part : RunPart s t) : AtnLaw t := by
  cases part with
  | start => exact h.frame (reqRunStart_frame s)
  | hold => exact h.frame (holdRun_frame s)
  | resume => exact h.frame (resumeRun_frame s)
  | abort => exact h.ite (atnLaw_abortRun s)
  | exclude p =>
    unfold excludeAt
    simp only
    split
    · exact h
    · exact AtnLaw.ite (atnLaw_putAttn _ _) ((h.frame (putRec_frame s p _)).frame (setRun_frame _ _)).membersChanged
  | edge p =>
    unfold deliverEdge
    simp only
    split
    · refine AtnLaw.ite ?_ h
      unfold applyEdge
      simp only
      split
      · exact h.frame (putRec_frame s p _)
      · exact ((h.frame (putRec_frame s p _)).frame (setRun_frame _ _)).membersChanged
    · exact h
  | referenceLost =>
    unfold Machine.referenceLost
    split
    · exact AtnLaw.ite (atnLaw_putAttn _ _) (h.frame (mapRecs_frame s _))
    · exact h
  | pointExpiry =>
    unfold Machine.pointExpiry
    split
    · exact (((h.frame (setEngine_frame s _)).frame (mapRecs_frame _ _)).frame (setRun_frame _ _)).membersChanged
    · exact h
  | latencyExpiry => exact h.frame (latencyExpiry_frame s)
  | sourceExpiry =>
    unfold Machine.sourceExpiry
    split
    · exact (atnLaw_abortRun _).ite h
    · exact h
  | settleExpiry => exact h.frame (settleExpiry_frame s)
  | phaseLowEnd => exact h.frame (phaseLowEnd_frame s)
  | holdOffExpiry => exact (h.frame (setRun_frame s _)).membersChanged.ite h
  | guardExpiry => exact (atnLaw_endPoint _).ite h
  | srcReadyRise => exact h.frame (srcReadyRise_frame s)
  | srcReadyFall =>
    have heard : AtnLaw (s.setRun { s.run with srcReady := confirmed false }) := h.frame (setRun_frame s _)
    unfold Machine.srcReadyFall
    simp only
    split
    · exact heard
    · split
      · exact heard.frame (setRun_frame _ _)
      · exact atnLaw_abortRun _
      · exact heard
  | phaseLineRise => exact h.frame (phaseLineRise_frame s)
  | phaseLineFall =>
    have heard : AtnLaw (s.setRun { s.run with phaseLine := confirmed false }) := h.frame (setRun_frame s _)
    exact AtnLaw.ite (AtnLaw.ite (atnLaw_completeRun _) ((atnLaw_putAttn _ _).frame (setRun_frame _ _))) heard
  | doneLineRise =>
    have heard : AtnLaw (s.setRun { s.run with doneLine := confirmed true }) := h.frame (setRun_frame s _)
    exact heard.membersChanged.ite heard
  | lines => exact h.frame (setRun_frame s _)

theorem AtnLaw.unitPart (h : AtnLaw s) (part : UnitPart s t) : AtnLaw t := by
  cases part with
  | close p =>
    unfold closePosition
    split
    · exact h
    · exact ((h.frame (putRec_frame s p _)).frame (setClosure_frame _ _)).serve
  | closeCancel p =>
    unfold closeCancelAt
    split
    · exact h
    · split
      · exact h
      · exact ((h.frame (putRec_frame s p _)).frame (setClosure_frame _ _)).serve
  | carriageHome =>
    unfold reqCarriageHome
    split
    · exact h.enterHoming
    · exact h.enterHoming
    all_goals exact h
  | closureClear =>
    unfold reqClosureClear
    split
    · exact h.enterHoming
    · exact h
  | stepExpiry =>
    unfold Machine.stepExpiry
    split
    · exact (h.frame (homingStep_frame s)).ite (atnLaw_putAttn _ _)
    · split
      · exact (h.arrive _).ite (h.frame (takeStep_frame s _))
      · exact h
    · exact h
  | dwellExpiry =>
    unfold Machine.dwellExpiry
    split
    · split
      · exact (h.frame (setClosure_frame s _)).dwellOver _
      · exact h
    · exact h
  | pressExpiry =>
    unfold Machine.pressExpiry
    split
    · exact atnLaw_putAttn _ _
    · exact h
  | homeRise =>
    have heard : AtnLaw (s.setClosure { s.closure with home := confirmed true }) := h.frame (setClosure_frame s _)
    exact (heard.frame (setClosure_frame _ _)).serve.ite heard
  | pressDoneRise =>
    have heard : AtnLaw (s.setClosure { s.closure with pressDone := confirmed true }) := h.frame (setClosure_frame s _)
    unfold Machine.pressDoneRise
    simp only
    split
    · unfold completePress
      split
      · exact (atnLaw_putAttn _ _).serve
      · exact heard
    · exact heard
  | lines => exact h.frame (setClosure_frame s _)

theorem writeSetting_attnMask (v : Settings) {id n : Nat} (other : id ≠ 0x40) : (writeSetting v id n).attnMask = v.attnMask := by
  unfold writeSetting
  split
  case h_20 => exact absurd rfl other
  all_goals rfl

/-- Only SET of ATTN_MASK touches what ATN is made of, and it sets ATN afresh (R195). -/
theorem AtnLaw.reqSet (h : AtnLaw s) (id : Byte) (value : BitVec 32) : AtnLaw (reqSet id value s).1 := by
  unfold Machine.reqSet
  simp only
  split
  · exact h
  · split
    · exact h
    · split
      · exact h
      · by_cases mask : id.toNat = 0x40
        · rw [mask]
          exact atnLaw_putAttn _ _
        · have set : AtnLaw (s.setSettings (writeSetting s.settings id.toNat
              (clampTo (settingRange id.toNat).1 (settingRange id.toNat).2 value.toNat))) := by
            simpa only [AtnLaw, exists_calls_iff, State.setSettings_settings, State.setSettings_attn, writeSetting_attnMask _ mask] using h
          unfold afterSet
          split
          · exact AtnLaw.ite (set.frame (setRun_frame _ _)) set
          · split
            · exact AtnLaw.ite (set.frame (setClosure_frame _ _)) set
            · split
              · exact AtnLaw.ite (set.frame (setClosure_frame _ _)) set
              · exact set

theorem AtnLaw.change (h : AtnLaw s) (change : Change s t) : AtnLaw t := by
  cases change with
  | link l => exact h.frame (setLink_frame s l)
  | part part =>
    cases part with
    | cursor cursor mark edit => exact h.frame (setLink_frame s _)
    | front f => exact h.frame (setFront_frame s f)
    | panel v => exact h.frame (setPanel_frame s v)
    | attend a => exact atnLaw_putAttn s a
    | set id value => exact h.reqSet id value
    | plan points => exact h.frame (editPlan_frame s points)
    | rollLoad slot first last => exact h.frame (reqRollLoad_frame s slot first last)
    | rollDrop slot =>
      unfold reqRollDrop
      simp only
      split
      · exact h
      · split
        · exact h
        · exact h.frame (setStock_frame s _)
        · split
          · exact h
          · exact AtnLaw.ite (atnLaw_putAttn _ _) (h.frame (setStock_frame s _))
    | record part => exact h.frame part.frame
    | run part => exact h.runPart part
    | unit part => exact h.unitPart part
    | tickTimers => exact h.frame (tickTimers_frame s)

end Atn

theorem atnLaw_initial (straps : Straps) (pending : List Instr) : AtnLaw (State.initial straps pending) := by
  rw [AtnLaw, exists_calls_iff]
  have silent : ¬callingLevel Settings.default.attnMask Attention.clear ≠ 0 := by decide
  exact iff_of_false (fun asserted => nomatch asserted) silent

theorem atnLaw_fullReset (straps : Straps) (s : State) : AtnLaw (fullReset straps s) := by
  rw [fullReset_eq]
  exact (atnLaw_initial straps s.pending).frame (setRun_frame _ _)

theorem linkInOrder_initial : LinkInOrder Link.initial :=
  ⟨by simp [Link.initial], by simp [Link.initial], by simp [Link.initial], rfl, Nat.zero_le _, Nat.zero_le _⟩

/-- Settles O53: both laws hold after FULL_RESET, and every change keeps them. -/
theorem everyStepKeepsAtnAndTheLinkInOrder : Obligations.EveryStepKeepsAtnAndTheLinkInOrder := by
  constructor
  · exact fun s t law next => step_keeps (fun _ => id) atnLaw_fullReset (fun u h => h.frame (quietExpiry_frame u))
      (fun change h => h.change change) law next
  · refine fun s t law next => step_keeps (law := fun u => LinkInOrder u.link) (fun _ => id) (fun straps u => ?_)
      (fun u => linkInOrder_quietExpiry) (fun change h => change.linkInOrder h) law next
    rw [fullReset_eq]
    exact linkInOrder_initial

/-! ## Every command answers (R1) -/

section Answers
variable {s : State}

theorem isDue_eq_false {t : Option Timer} (h : ¬Due t) : isDue t = false := by
  rw [← Bool.not_eq_true, isDue_iff]
  exact h

theorem lineEvent_confirmed {f : Filter} {level : Bool} {effect : State → State} (h : f.seeded = true ∧ f.level = level) :
    lineEvent f level effect s = s := by
  obtain ⟨seeded, rfl⟩ := h
  simp [lineEvent, canChange, seeded]

theorem cascadeEvent_confirmed {f : Filter} {level : Bool} {effect : State → State} (h : f.seeded = true ∧ f.level = level) :
    cascadeEvent f level effect s = s := by
  unfold cascadeEvent
  rw [lineEvent_confirmed h, ite_self]

end Answers

/-- Settles O2: the moves a command makes leave the waiting commands alone; an expiry not due and a level already confirmed are not
acted on. -/
theorem everyCommandAnswersANextState : Obligations.EveryCommandAnswersANextState := by
  refine ⟨fun c s => ?_, fun s => ⟨fun h => ?_, fun h => ?_, fun h => ?_, fun h => ?_, fun h => ?_, fun h => ?_, fun h => ?_, fun h => ?_,
    fun h => ?_, fun h => ?_, fun h => ?_, fun h => ?_, fun slot h => ?_, fun h => ?_, fun level => ⟨fun h => ?_, fun h => ?_, fun h => ?_,
    fun h => ?_, fun h => ?_⟩⟩⟩
  · rcases exec_changes c s with ⟨station, role, rate, rfl⟩ | done | ⟨t, done, changes⟩
    · exact ⟨_, rfl, fullReset_pending _ s⟩
    · exact ⟨_, done, (quietExpiry_frame s).1⟩
    · exact ⟨t, done, changes.keep (law := fun u => u.pending = s.pending) (fun change h => change.pending.trans h) rfl⟩
  · exact congrArg _ (presenceExpiry_not_due (isDue_eq_false h))
  · exact congrArg _ (pointExpiry_not_due (isDue_eq_false h))
  · exact congrArg _ (latencyExpiry_not_due (isDue_eq_false h))
  · exact congrArg _ (sourceExpiry_not_due (isDue_eq_false h))
  · exact congrArg _ (settleExpiry_not_due (isDue_eq_false h))
  · exact congrArg _ (guardExpiry_not_due (isDue_eq_false h))
  · exact congrArg _ (holdOffExpiry_not_due (isDue_eq_false h))
  · exact congrArg _ (phaseLowEnd_not_due (isDue_eq_false h))
  · exact congrArg _ (stepExpiry_not_due (isDue_eq_false h))
  · exact congrArg _ (dwellExpiry_not_due (isDue_eq_false h))
  · exact congrArg _ (pressExpiry_not_due (isDue_eq_false h))
  · exact congrArg _ (modeExpiry_not_due (isDue_eq_false h))
  · exact congrArg _ (flashExpiry_not_due (isDue_eq_false h))
  · exact congrArg _ (lampTestExpiry_not_due (isDue_eq_false h))
  · cases level with
    | true | false => exact congrArg _ (lineEvent_confirmed h)
  · cases level with
    | true | false => exact congrArg _ (lineEvent_confirmed h)
  · cases level with
    | true | false => exact congrArg _ (lineEvent_confirmed h)
  · cases level with
    | true | false => exact congrArg _ (cascadeEvent_confirmed h)
  · cases level with
    | true | false => exact congrArg _ (cascadeEvent_confirmed h)

/-! ## FULL_RESET (R177) -/

section Reset
variable (straps : Straps) (pending : List Instr) (phaseLow : Option Timer)

/-- The part after a reset: the 3 ms of a PHASE that the reset made fall may run (R113). -/
def atReset : State := (State.initial straps pending).setRun { Run.initial with phaseLow := phaseLow }

theorem fullReset_eq_atReset (s : State) : fullReset straps s =
    atReset straps s.pending (if s.run.phaseHigh = true ∧ straps.role = .master then some ⟨3, 3⟩ else none) := fullReset_eq straps s

theorem getRec_atReset (p : Pos) : getRec (atReset straps pending phaseLow) p = Record.vacant := Tbl.get_fill Record.vacant p

theorem stock_atReset (i : Fin 4) : (atReset straps pending phaseLow).stock.get i = .empty := Tbl.get_fill RollSlot.empty i

theorem recordLaw_vacant : RecordLaw Record.vacant := by simp [RecordLaw, Record.vacant]

theorem benchLaw_atReset : BenchLaw (atReset straps pending phaseLow) := by
  refine ⟨fun p => ?_, ⟨fun p => ?_, ⟨fun _ => rfl, fun _ => rfl⟩, fun p done => ?_⟩, .nil, fun p => ?_, rfl, nofun,
    nofun⟩
  · rw [getRec_atReset]
    exact recordLaw_vacant
  · rw [getRec_atReset]
    exact iff_of_false (ne_true_of_eq_false (PosSet.has_zero p)) (by simp [Record.vacant])
  · exact absurd done (ne_true_of_eq_false (PosSet.has_zero p))
  · rw [getRec_atReset]
    exact iff_of_false List.not_mem_nil (by simp [Record.vacant])

theorem indexLaw_atReset : IndexLaw (atReset straps pending phaseLow) := by
  refine ⟨?_, .nil⟩
  simp only [getRec_atReset]
  exact (List.filterMap_eq_nil_iff.mpr fun _ _ => rfl).symm

theorem stockLaw_atReset : StockLaw (atReset straps pending phaseLow) := by
  refine ⟨fun i => ?_, Nat.zero_le _⟩
  rw [stock_atReset]
  trivial

theorem tagLaw_atReset : TagLaw (atReset straps pending phaseLow) := by
  have none_held : ∀ p n, ¬holdsTag (getRec (atReset straps pending phaseLow) p) n := fun p n => by
    simp [getRec_atReset, holdsTag, Record.vacant]
  have none_undrawn : ∀ n i, ¬undrawnIn n ((atReset straps pending phaseLow).stock.get i) := fun n i => by
    simp [stock_atReset, undrawnIn]
  exact ⟨fun p _ n held => absurd held (none_held p n), fun p n held => absurd held (none_held p n),
    fun n i _ => none_undrawn n i, fun n i _ undrawn => absurd undrawn (none_undrawn n i)⟩

theorem cascadeLaw_atReset : CascadeLaw (atReset straps pending phaseLow) := by
  refine ⟨fun _ => .inl rfl, fun _ => nofun, ?_, ?_, fun h => ?_, nofun, nofun, nofun⟩
  · exact (decide_eq_false nofun).symm
  · exact (decide_eq_false nofun).symm
  · rcases h with h | h <;> cases h

theorem measurementLaw_atReset : MeasurementLaw (atReset straps pending phaseLow) :=
  ⟨rfl, nofun, fun h => absurd rfl h, nofun, Nat.zero_le _, fun _ => rfl, fun _ h => absurd rfl h⟩

theorem carriageLaw_atReset : CarriageLaw (atReset straps pending phaseLow) :=
  ⟨fun _ => nofun, trivial, rfl, rfl, nofun, nofun, nofun,
    (by decide : (0 : Nat) < if Excitation.half = .full then 4 else 8)⟩

end Reset

/-- Settles O52: each law holds of a part whose records are VACANT, whose run is IDLE, whose queue and slots are empty and whose unit is
UNHOMED. -/
theorem theLawsHoldAfterReset : Obligations.TheLawsHoldAfterReset :=
  ⟨benchLaw_atReset _ _ none, indexLaw_atReset _ _ none, stockLaw_atReset _ _ none, tagLaw_atReset _ _ none, cascadeLaw_atReset _ _ none,
    measurementLaw_atReset _ _ none, carriageLaw_atReset _ _ none, linkInOrder_initial, atnLaw_initial _ _⟩

theorem not_isPending_clear (level : Nat) : ¬isPending Attention.clear level := by
  unfold isPending
  split <;> simp [Attention.clear]

/-- Settles O3: the part is `atReset`, and the straps name the role. -/
theorem fullResetLeavesEveryBlockAtItsResetValues : Obligations.FullResetLeavesEveryBlockAtItsResetValues := by
  intro station role rate s
  refine ⟨_, rfl, ?_⟩
  rw [fullReset_eq_atReset]
  refine ⟨⟨rfl, rfl, ?_, ?_, ?_⟩, fun id lo hi d mem => settingValue_default mem, ⟨rfl, rfl, rfl, rfl, rfl, rfl, rfl, rfl, rfl⟩,
    ⟨not_isPending_clear, rfl, rfl⟩, ⟨getRec_atReset _ _ _, rfl⟩, rfl, ⟨rfl, rfl, rfl, rfl, fun slot => ?_⟩, rfl,
    ⟨rfl, rfl, rfl, rfl, rfl, rfl, rfl, rfl, rfl, rfl, rfl, rfl, rfl, rfl, rfl, rfl, rfl, rfl⟩, rfl, stock_atReset _ _ _,
    ⟨rfl, rfl, rfl, rfl, rfl, rfl, rfl, rfl, rfl, rfl, rfl, rfl, rfl, rfl⟩,
    ⟨rfl, rfl, rfl, rfl, rfl, rfl, rfl, fun row => ?_, fun slot => ?_, fun k => ?_⟩, rfl⟩
  · rintro rfl
    rfl
  · rintro rfl
    rfl
  · rintro (rfl | rfl) <;> rfl
  · rw [show (atReset _ _ _).front.filters.get slot = Filter.unseeded from Tbl.get_fill _ slot]
    exact ⟨rfl, rfl⟩
  · exact Tbl.get_fill _ row
  · exact Tbl.get_fill _ slot
  · rw [show (atReset _ _ _).panel.keys.get k = Filter.unseeded from Tbl.get_fill _ k]
    exact ⟨rfl, rfl⟩

end Sys2Proof.Machine
end

section
/-! PROOF. The bench link (R178 to R184, R199): a request row, its frame's characters, the bytes of its parameters, and the response.
The facts about bytes and fields (`fieldAt`, `word`) and about requests in either addressing are for every block's proofs. -/

namespace Sys2Proof.Machine

/-! ## Requests in either addressing (R180 to R184) -/

section Requests
variable {s t : State} {how : Addressing} {code : Nat} {st : Status} {payload : List Byte} {effect : State → State × Reply}

/-- A request that may be broadcast has the same effect addressed and broadcast, but for the answer. -/
theorem request_eq_answered (take : CanTake s) (open_ : mayBroadcast code = true)
    (h : effect (s.setLink (takenLink s.link)) = (t.setLink (takenLink t.link), ⟨st, payload⟩)) :
    .next (request how code effect s) = answered how st payload t := by
  cases how with
  | addressed => exact request_addressed_eq_answered take h
  | broadcast =>
    simp only [request, if_neg take, h, open_]
    rfl

/-- A request that leaves the part as it is leaves it so in either addressing, whatever may be broadcast. -/
theorem request_eq_answered_unchanged (take : CanTake s)
    (h : effect (s.setLink (takenLink s.link)) = (s.setLink (takenLink s.link), ⟨st, payload⟩)) :
    .next (request how code effect s) = answered how st payload s := by
  cases how with
  | addressed => exact request_addressed_eq_answered take h
  | broadcast =>
    simp only [request, if_neg take, h, ite_self]
    rfl

theorem request_responding (h : s.link.receiver = .responding) : request how code effect s = s := if_pos h

theorem Parts.link (h : Parts s t) : ∃ cursor mark edit, t.link = { s.link with cursor := cursor, mark := mark, edit := edit } := by
  refine Parts.keep (law := fun u => ∃ cursor mark edit, u.link = { s.link with cursor := cursor, mark := mark, edit := edit })
    (fun part same => ?_) h ⟨_, _, _, rfl⟩
  obtain ⟨-, -, cursor, mark, edit, moved, -⟩ := part.keeps
  obtain ⟨_, _, _, before⟩ := same
  exact ⟨cursor, mark, edit, by rw [moved, before]⟩

/-- What a request leaves behind has the taken link, but for the cursor. -/
theorem takenLink_of_parts (h : Parts (s.setLink (takenLink s.link)) t) : t.setLink (takenLink t.link) = t := by
  obtain ⟨cursor, mark, edit, link⟩ := h.link
  have taken : takenLink t.link = t.link := by rw [link]; rfl
  rw [taken, State.setLink_self]

end Requests

theorem mayBroadcast_iff (code : Nat) :
    mayBroadcast code = true ↔ code ∈ [0x02, 0x04, 0x30, 0x31, 0x32, 0x34, 0x41, 0x42, 0x43] := List.contains_iff_mem

/-- Settles O4: a request's row is `request` of its code and its owner's operation, which leaves the taken link alone. -/
theorem requestsAreTakenOutsideRespondingAndAnsweredWhenAddressed :
    Obligations.RequestsAreTakenOutsideRespondingAndAnsweredWhenAddressed := by
  intro r how s
  have carried_out := takenLink_of_parts (runRequest_parts r (s.setLink (takenLink s.link)))
  refine ⟨fun responding => ?_, fun take => ⟨⟨(runRequest r (s.setLink (takenLink s.link))).2.status,
    (runRequest r (s.setLink (takenLink s.link))).2.payload, (runRequest r (s.setLink (takenLink s.link))).1, ?_, fun open_ => ?_⟩,
    fun barred => ?_⟩⟩
  · rw [exec_row, request_responding responding]
  · rw [exec_row]
    exact request_addressed_eq_answered take (by rw [carried_out])
  · rw [exec_row]
    exact request_eq_answered take ((mayBroadcast_iff _).mpr open_) (by rw [carried_out])
  · rw [exec_row]
    exact request_broadcast_ignored take (by rw [← Bool.not_eq_true, mayBroadcast_iff]; exact barred)

/-! ## Bytes and fields (11, opening) -/

section Bytes

@[simp] theorem be_length (w n : Nat) : (be w n).length = w := by
  induction w with
  | zero => rfl
  | succ w ih => simp [be, ih]

theorem ofBe_foldl (bytes : List Byte) (n : Nat) :
    bytes.foldl (fun a b => a * 256 + b.toNat) n = n * 256 ^ bytes.length + ofBe bytes := by
  induction bytes generalizing n with
  | nil => simp [ofBe]
  | cons b bytes ih =>
    rw [ofBe, List.foldl_cons, List.foldl_cons, ih, ih, List.length_cons, Nat.pow_succ]
    ring

theorem ofBe_cons (b : Byte) (bytes : List Byte) : ofBe (b :: bytes) = b.toNat * 256 ^ bytes.length + ofBe bytes := by
  rw [ofBe, List.foldl_cons, ofBe_foldl, Nat.zero_mul, Nat.zero_add]

/-- Bytes written most significant first read back as the number, as far as they reach. -/
theorem ofBe_be (w n : Nat) : ofBe (be w n) = n % 256 ^ w := by
  induction w with
  | zero => simp [be, ofBe, Nat.mod_one]
  | succ w ih =>
    rw [be, ofBe_cons, ih, be_length, BitVec.toNat_ofNat, show (2 : Nat) ^ 8 = 256 from rfl, Nat.pow_succ, Nat.mod_mul]
    ring

theorem toNat_mod_bytes {v w : Nat} (x : BitVec v) (fits : v ≤ 8 * w) : x.toNat % 256 ^ w = x.toNat := by
  refine Nat.mod_eq_of_lt (x.isLt.trans_le ?_)
  calc 2 ^ v ≤ 2 ^ (8 * w) := Nat.pow_le_pow_right (by decide) fits
    _ = 256 ^ w := by rw [Nat.pow_mul]

theorem fieldAt_be (w n : Nat) (rest : List Byte) : fieldAt (be w n ++ rest) 0 w = n % 256 ^ w := by
  rw [fieldAt, List.drop_zero, List.take_left' (be_length w n), ofBe_be]

theorem fieldAt_be_toNat {v w : Nat} (x : BitVec v) (rest : List Byte) (fits : v ≤ 8 * w := by decide) :
    fieldAt (be w x.toNat ++ rest) 0 w = x.toNat := by
  rw [fieldAt_be, toNat_mod_bytes x fits]

theorem fieldAt_append_right (front rest : List Byte) {i : Nat} (w : Nat) (after : front.length ≤ i) :
    fieldAt (front ++ rest) i w = fieldAt rest (i - front.length) w := by
  rw [fieldAt, fieldAt, List.drop_append, List.drop_eq_nil_of_le after, List.nil_append]

theorem fieldAt_be_append {v n : Nat} (rest : List Byte) {i : Nat} (w : Nat) (after : v ≤ i) :
    fieldAt (be v n ++ rest) i w = fieldAt rest (i - v) w := by
  rw [fieldAt_append_right _ _ _ (by rwa [be_length]), be_length]

theorem byte_toNat_of_lt {n : Nat} (h : n < 256) : (byte n).toNat = n := by
  rw [byte, BitVec.toNat_ofNat]
  exact Nat.mod_eq_of_lt h

/-- A 32-bit field read from its four bytes is the field. -/
theorem word_be (x : BitVec 32) : ∃ a b c d, be 4 x.toNat = [a, b, c, d] ∧ word a b c d = x := by
  refine ⟨_, _, _, _, rfl, ?_⟩
  change BitVec.ofNat 32 (ofBe (be 4 x.toNat)) = x
  rw [ofBe_be, toNat_mod_bytes x (by decide), BitVec.ofNat_toNat, BitVec.setWidth_eq]

theorem Tbl.flatMap_cells_four {α β : Type} (t : Tbl 4 α) (f : α → List β) :
    t.cells.flatMap f = f (t.get 0) ++ (f (t.get 1) ++ (f (t.get 2) ++ f (t.get 3))) := by
  rw [Tbl.cells_eq_ofFn]
  simp [List.ofFn_succ]

end Bytes

/-! ## The test point form in its 43 bytes (R201) -/

section Form
variable (f : PointForm)

theorem pointFormBytes_eq : pointFormBytes f =
    be 1 f.method.toNat ++ (be 2 f.load.toNat ++ (be 4 f.settle.toNat ++ (be 1 f.pauseAfter.toNat ++ (be 2 f.n.toNat ++
    (be 1 f.repetitions.toNat ++ (be 2 f.timeout.toNat ++
    (be 3 (f.limits.get 0).1.toNat ++ (be 3 (f.limits.get 0).2.toNat ++ (be 3 (f.limits.get 1).1.toNat ++
    (be 3 (f.limits.get 1).2.toNat ++ (be 3 (f.limits.get 2).1.toNat ++ (be 3 (f.limits.get 2).2.toNat ++
    (be 3 (f.limits.get 3).1.toNat ++ (be 3 (f.limits.get 3).2.toNat ++
    (be 2 f.startWindow.toNat ++ (be 1 f.required.toNat ++ (be 2 f.creepWindow.toNat ++
      (be 1 f.allowed.toNat ++ [])))))))))))))))))) := by
  simp only [pointFormBytes, Tbl.flatMap_cells_four, List.append_assoc, List.append_nil]

theorem pointFormBytes_length : (pointFormBytes f).length = 43 := by
  simp [pointFormBytes_eq]

theorem fieldAt_pointFormBytes :
    fieldAt (pointFormBytes f) 0 1 = f.method.toNat ∧ fieldAt (pointFormBytes f) 1 2 = f.load.toNat ∧
      fieldAt (pointFormBytes f) 3 4 = f.settle.toNat ∧ fieldAt (pointFormBytes f) 7 1 = f.pauseAfter.toNat ∧
      fieldAt (pointFormBytes f) 8 2 = f.n.toNat ∧ fieldAt (pointFormBytes f) 10 1 = f.repetitions.toNat ∧
      fieldAt (pointFormBytes f) 11 2 = f.timeout.toNat ∧
      (∀ k : Fin 4, fieldAt (pointFormBytes f) (13 + 6 * k.val) 3 = (f.limits.get k).1.toNat ∧
        fieldAt (pointFormBytes f) (16 + 6 * k.val) 3 = (f.limits.get k).2.toNat) ∧
      fieldAt (pointFormBytes f) 37 2 = f.startWindow.toNat ∧ fieldAt (pointFormBytes f) 39 1 = f.required.toNat ∧
      fieldAt (pointFormBytes f) 40 2 = f.creepWindow.toNat ∧ fieldAt (pointFormBytes f) 42 1 = f.allowed.toNat := by
  have limits : ∀ k : Fin 4, fieldAt (pointFormBytes f) (13 + 6 * k.val) 3 = (f.limits.get k).1.toNat ∧
      fieldAt (pointFormBytes f) (16 + 6 * k.val) 3 = (f.limits.get k).2.toNat := by
    intro k
    match k with
    | 0 | 1 | 2 | 3 => simp [pointFormBytes_eq, fieldAt_be_append, fieldAt_be_toNat, -List.append_nil]
  simp [pointFormBytes_eq, fieldAt_be_append, fieldAt_be_toNat, -List.append_nil] at limits ⊢
  exact limits

theorem pointFormOfBytes_pointFormBytes : pointFormOfBytes (pointFormBytes f) = f := by
  obtain ⟨method, load, settle, pauseAfter, n, repetitions, timeout, limits, startWindow, required, creepWindow, allowed⟩ :=
    fieldAt_pointFormBytes f
  have limits_eq : (Tbl.ofFn fun k : Fin 4 => (BitVec.ofNat 24 (fieldAt (pointFormBytes f) (13 + 6 * k.val) 3),
      BitVec.ofNat 24 (fieldAt (pointFormBytes f) (16 + 6 * k.val) 3))) = f.limits := Tbl.ext fun k => by
    obtain ⟨limit, spread⟩ := limits k
    rw [Tbl.get_ofFn, limit, spread]
    simp
  simp only [pointFormOfBytes, method, load, settle, pauseAfter, n, repetitions, timeout, limits_eq, startWindow, required,
    creepWindow, allowed, BitVec.ofNat_toNat, BitVec.setWidth_eq]

end Form

/-! ## Parameters (R182, R199) -/

section Parameters

theorem parse14_be (p : Byte) (x : BitVec 32) (f : Byte → BitVec 32 → Request) :
    parse14 (p :: be 4 x.toNat) f = .request (f p x) := by
  obtain ⟨a, b, c, d, bytes, read⟩ := word_be x
  rw [bytes, parse14, read]

theorem parseMount_params {position sense cls : Byte} {mr : BitVec 32} {serial : List Byte} (short : serial.length < 256) :
    parseMount (position :: (be 4 mr.toNat ++ [sense, cls, byte serial.length] ++ serial)) =
      .request (.mount position mr sense cls serial) := by
  obtain ⟨a, b, c, d, bytes, read⟩ := word_be mr
  rw [bytes]
  exact (if_pos (byte_toNat_of_lt short).symm).trans (by rw [read]; rfl)

theorem parseFind_params {serial : List Byte} (short : serial.length < 256) :
    parseFind (byte serial.length :: serial) = .request (.find serial) := if_pos (byte_toNat_of_lt short).symm

theorem parseRequest_append (bytes : List Byte) : parseRequest 0x31 bytes =
    if bytes.length = 43 then .request (.planAppend (pointFormOfBytes bytes)) else .badLength := rfl

theorem parseRequest_replace (place : Byte) (bytes : List Byte) : parseRequest 0x32 (place :: bytes) =
    if bytes.length = 43 then .request (.planReplace place (pointFormOfBytes bytes)) else .badLength := rfl

theorem parseRequest_planAppend (point : PointForm) :
    parseRequest 0x31 (pointFormBytes point) = .request (.planAppend point) := by
  rw [parseRequest_append, if_pos (pointFormBytes_length point), pointFormOfBytes_pointFormBytes]

theorem parseRequest_planReplace (place : Byte) (point : PointForm) :
    parseRequest 0x32 (place :: pointFormBytes point) = .request (.planReplace place point) := by
  rw [parseRequest_replace, if_pos (pointFormBytes_length point), pointFormOfBytes_pointFormBytes]

end Parameters

/-- Settles O6: a field's bytes read back as the field, whatever request carries it. -/
theorem parametersReadBackAsWritten : Obligations.ParametersReadBackAsWritten := by
  intro r fits
  cases r with
  | set id value => exact parse14_be id value _
  | ackTag position tag => exact parse14_be position tag _
  | ackSpoiled position tag => exact parse14_be position tag _
  | mount position mr sense cls serial =>
    refine parseMount_params ?_
    simp [Request.params] at fits
    omega
  | find serial =>
    refine parseFind_params ?_
    simp [Request.params] at fits
    omega
  | setMeter position mr sense cls | setMeterNext mr sense cls =>
    obtain ⟨a, b, c, d, bytes, read⟩ := word_be mr
    simp only [Request.params, bytes]
    rw [← read]
    rfl
  | rollLoad slot first last =>
    obtain ⟨a, b, c, d, bytes, read⟩ := word_be first
    obtain ⟨a', b', c', d', bytes', read'⟩ := word_be last
    simp only [Request.params, bytes, bytes']
    rw [← read, ← read']
    rfl
  | planAppend point => exact parseRequest_planAppend point
  | planReplace place point => exact parseRequest_planReplace place point
  | _ => rfl

/-! ## The receiver (R178 to R182) -/

section Receiver
variable {s : State} {how : Addressing} {value len cmd : Byte} {rest params : List Byte}

theorem receiving_of (take : CanTake s) (ready : s.link.rxWait = .none) : receiving s.link = true := by
  simp [receiving, take, ready]

theorem receiving_false (h : s.link.receiver = .responding ∨ s.link.rxWait ≠ .none) : receiving s.link = false := by
  rcases h with h | h <;> simp [receiving, h]

theorem canTake_of_listening {frame : List Byte} (h : s.link.receiver = .listening how frame) : CanTake s := by
  simp [CanTake, h]

theorem dataCharacter_listening {frame : List Byte} (listening : s.link.receiver = .listening how frame)
    (ready : s.link.rxWait = .none) : dataCharacter value s = frameCharacter how frame value s := by
  simp [dataCharacter, receiving_of (canTake_of_listening listening) ready, listening]

theorem dataCharacter_len (listening : s.link.receiver = .listening how []) (ready : s.link.rxWait = .none) :
    dataCharacter value s = s.setLink (if value.toNat = 0 ∨ 48 < value.toNat then abandonFrame s.link
      else { s.link with receiver := .listening how [value], gap := true }) := by
  rw [dataCharacter_listening listening ready, frameCharacter]
  split
  next bad => exact congrArg s.setLink (if_pos bad).symm
  next good => exact congrArg s.setLink (if_neg good).symm

theorem dataCharacter_going_on (listening : s.link.receiver = .listening how (len :: rest)) (ready : s.link.rxWait = .none)
    (short : rest.length < len.toNat) : dataCharacter value s =
      s.setLink { s.link with receiver := .listening how (len :: rest ++ [value]), gap := true } := by
  rw [dataCharacter_listening listening ready]
  exact if_neg (by simp; omega)

theorem dataCharacter_last (listening : s.link.receiver = .listening how (len :: rest)) (ready : s.link.rxWait = .none)
    (full : rest.length = len.toNat) : dataCharacter value s = frameComplete how (len :: rest ++ [value]) s := by
  rw [dataCharacter_listening listening ready]
  exact if_pos (by simp; omega)

theorem checkOk_iff (frame : List Byte) : checkOk frame = true ↔ frame.foldl (· + ·) 0 = 255 := beq_iff_eq

theorem dataCharacter_bad_check (listening : s.link.receiver = .listening how (len :: rest)) (ready : s.link.rxWait = .none)
    (full : rest.length = len.toNat) (bad : (len :: rest ++ [value]).foldl (· + ·) 0 ≠ 255) :
    dataCharacter value s = s.setLink (abandonFrame s.link) := by
  rw [dataCharacter_last listening ready full]
  exact if_neg (by rwa [checkOk_iff])

/-- A frame with a good check is dispatched by its CMD with its parameters (R182). -/
theorem dataCharacter_good_check (listening : s.link.receiver = .listening how (len :: cmd :: params)) (ready : s.link.rxWait = .none)
    (full : (cmd :: params).length = len.toNat) (good : (len :: cmd :: params ++ [value]).foldl (· + ·) 0 = 255) :
    dataCharacter value s = request how cmd.toNat (frameEffect cmd params) s := by
  rw [dataCharacter_last listening ready full]
  refine (if_pos ((checkOk_iff _).mpr good)).trans ?_
  change dispatchFrame how cmd (params ++ [value]).dropLast s = _
  rw [List.dropLast_concat]
  rfl

theorem frameEffect_request {r : Request} (h : parseRequest cmd params = .request r) : frameEffect cmd params = runRequest r := by
  funext s
  simp only [frameEffect, h]

theorem parse0_code {ps : List Byte} {q r : Request} (h : parse0 ps q = .request r) : r = q := by
  unfold parse0 at h
  split at h <;> cases h
  rfl

theorem parse1_code {ps : List Byte} {f : Byte → Request} {r : Request} (h : parse1 ps f = .request r) : ∃ a, r = f a := by
  unfold parse1 at h
  split at h <;> cases h
  exact ⟨_, rfl⟩

theorem parse14_code {ps : List Byte} {f : Byte → BitVec 32 → Request} {r : Request} (h : parse14 ps f = .request r) :
    ∃ a x, r = f a x := by
  unfold parse14 at h
  split at h <;> cases h
  exact ⟨_, _, rfl⟩

theorem parseMount_code {ps : List Byte} {r : Request} (h : parseMount ps = .request r) :
    ∃ position mr sense cls serial, r = .mount position mr sense cls serial := by
  unfold parseMount at h
  split at h
  · split at h <;> cases h
    exact ⟨_, _, _, _, _, rfl⟩
  · cases h

theorem parseFind_code {ps : List Byte} {r : Request} (h : parseFind ps = .request r) : ∃ serial, r = .find serial := by
  unfold parseFind at h
  split at h
  · split at h <;> cases h
    exact ⟨_, rfl⟩
  · cases h

/-- The request parsed from a CMD has that code. -/
theorem parseRequest_code {r : Request} (h : parseRequest cmd params = .request r) : cmd.toNat = r.code := by
  unfold parseRequest at h
  split at h
  case h_1 at_cmd | h_4 at_cmd | h_5 at_cmd | h_19 at_cmd | h_20 at_cmd | h_22 at_cmd | h_27 at_cmd | h_28 at_cmd | h_29 at_cmd
    | h_30 at_cmd | h_31 at_cmd | h_34 at_cmd | h_38 at_cmd | h_39 at_cmd | h_40 at_cmd =>
    rw [at_cmd, parse0_code h]
    rfl
  case h_3 at_cmd | h_6 at_cmd | h_8 at_cmd | h_12 at_cmd | h_13 at_cmd | h_14 at_cmd | h_17 at_cmd | h_18 at_cmd | h_25 at_cmd
    | h_26 at_cmd | h_33 at_cmd | h_35 at_cmd | h_36 at_cmd | h_37 at_cmd =>
    obtain ⟨_, rfl⟩ := parse1_code h
    exact at_cmd
  case h_2 at_cmd | h_15 at_cmd | h_16 at_cmd =>
    obtain ⟨_, _, rfl⟩ := parse14_code h
    exact at_cmd
  case h_7 at_cmd =>
    obtain ⟨_, _, _, _, _, rfl⟩ := parseMount_code h
    exact at_cmd
  case h_11 at_cmd =>
    obtain ⟨_, rfl⟩ := parseFind_code h
    exact at_cmd
  case h_9 at_cmd | h_10 at_cmd | h_21 at_cmd | h_23 at_cmd | h_32 at_cmd =>
    split at h <;> cases h
    exact at_cmd
  case h_24 at_cmd =>
    split at h
    · split at h <;> cases h
      exact at_cmd
    · cases h
  case h_41 => cases h

end Receiver

/-- Settles O7: an address character is taken by a receiver that looks for start bits, and by no other. -/
theorem addressCharacterSelectsTheReceiver : Obligations.AddressCharacterSelectsTheReceiver := by
  intro value s
  refine ⟨fun closed => ?_, fun take ready => ?_⟩
  · change Host.Outcome.next (addressCharacter value s) = _
    rw [addressCharacter, receiving_false closed]
    rfl
  · change Host.Outcome.next (addressCharacter value s) = _
    have waits : takenLink s.link = { s.link with receiver := .idle, gap := false, quiet := false, response := none } := by
      simp [takenLink, ready]
    rw [addressCharacter, receiving_of take ready, waits, addressedAs]
    by_cases own : value = s.straps.station.setWidth 8
    · simp [own, State.setLink]
    · by_cases all : value = 127#8
      · subst all
        simp [own, State.setLink]
      · simp [own, all, State.setLink]

/-- Settles O8: the cases of a character in LISTENING, and of a frame that passed its check. -/
theorem dataCharacterIsTakenIntoTheFrame : Obligations.DataCharacterIsTakenIntoTheFrame := by
  intro value s
  refine ⟨fun elsewhere => ?_, fun how ready => ⟨fun listening => ?_, fun len rest listening => ⟨fun short => ?_, fun full bad => ?_,
    fun cmd params frame full good => ?_⟩⟩⟩
  · change Host.Outcome.next (dataCharacter value s) = _
    rcases elsewhere with h | h | h | h
    · rw [dataCharacter, receiving_false (.inl h)]
      rfl
    · simp [dataCharacter, h]
    · simp [dataCharacter, h]
    · rw [dataCharacter, receiving_false (.inr h)]
      rfl
  · exact congrArg _ (dataCharacter_len listening ready)
  · exact congrArg _ (dataCharacter_going_on listening ready short)
  · exact congrArg _ (dataCharacter_bad_check listening ready full bad)
  · subst frame
    have take := canTake_of_listening listening
    have dispatched : exec (.dataCharacter value) s = .next (request how cmd.toNat (frameEffect cmd params) s) :=
      congrArg _ (dataCharacter_good_check listening ready full good)
    rw [dispatched]
    refine ⟨fun unknown => ?_, fun bad => ?_, fun r parsed => ?_⟩
    · exact request_eq_answered_unchanged take (by simp only [frameEffect, unknown]; rfl)
    · exact request_eq_answered_unchanged take (by simp only [frameEffect, bad]; rfl)
    · rw [exec_row, frameEffect_request parsed, parseRequest_code parsed]

/-! ## A frame character by character (R181, R182) -/

section Frames
variable {s : State} {how : Addressing} {len : Byte} {bytes : List Byte}

/-- The part that has taken an address of its own and the characters of `frame` since. -/
def assembling (how : Addressing) (frame : List Byte) (s : State) : State :=
  s.setLink { takenLink s.link with receiver := .listening how frame, gap := true }

theorem execAll_append (cs ds : List Instr) (s t : State) (h : execAll cs s = .next t) : execAll (cs ++ ds) s = execAll ds t := by
  induction cs generalizing s with
  | nil => cases h; rfl
  | cons c cs ih =>
    rw [List.cons_append, execAll]
    rw [execAll] at h
    cases done : exec c s with
    | next u => rw [done] at h; exact ih u h
    | fault r => rw [done] at h; cases h
    | refused r => rw [done] at h; cases h

theorem execAll_cons {c : Instr} {cs : List Instr} {s t : State} (h : exec c s = .next t) : execAll (c :: cs) s = execAll cs t := by
  simp only [execAll, h]

theorem addressCharacter_assembling {a : Byte} (take : CanTake s) (ready : s.link.rxWait = .none)
    (own : addressedAs s.straps.station a = some how) : exec (.addressCharacter a) s = .next (assembling how [] s) := by
  change Host.Outcome.next (addressCharacter a s) = _
  simp only [addressCharacter, receiving_of take ready, own]
  rfl

theorem dataCharacter_assembling_len (low : 1 ≤ len.toNat) (high : len.toNat ≤ 48) :
    exec (.dataCharacter len) (assembling how [] s) = .next (assembling how [len] s) := by
  refine congrArg _ ((dataCharacter_len rfl rfl).trans ?_)
  rw [if_neg (by omega)]
  rfl

/-- Characters short of the frame's end are put into the buffer. -/
theorem execAll_assembling (got : List Byte) (fits : got.length + bytes.length ≤ len.toNat) :
    execAll (bytes.map .dataCharacter) (assembling how (len :: got) s) = .next (assembling how (len :: (got ++ bytes)) s) := by
  induction bytes generalizing got with
  | nil => simp [execAll]
  | cons b bytes ih =>
    rw [List.length_cons] at fits
    have taken : exec (.dataCharacter b) (assembling how (len :: got) s) = .next (assembling how (len :: (got ++ [b])) s) :=
      congrArg _ (dataCharacter_going_on rfl rfl (by omega))
    rw [List.map_cons, execAll_cons taken, ih (got ++ [b]) (by simp; omega), List.append_assoc, List.singleton_append]

theorem withCheck_sum (bytes : List Byte) : (withCheck bytes).foldl (· + ·) 0 = 255 := by
  rw [withCheck, List.foldl_append, List.foldl_cons, List.foldl_nil]
  exact add_sub_cancel _ _

/-- A request sees the taken link, whatever the receiver had assembled. -/
theorem request_assembling {code : Nat} {effect : State → State × Reply} {frame : List Byte} (take : CanTake s) :
    request how code effect (assembling how frame s) = request how code effect s := by
  have listening : (assembling how frame s).link.receiver ≠ .responding := nofun
  rw [request, request, if_neg listening, if_neg take]
  rfl

end Frames

/-- Settles O5: LEN, CMD and the parameters fill the buffer, and CHK dispatches them. -/
theorem frameCharactersCarryOutTheRequest : Obligations.FrameCharactersCarryOutTheRequest := by
  intro how r a s take ready fits addressed
  have own : addressedAs s.straps.station a = some how := by
    rcases addressed with ⟨rfl, rfl⟩ | ⟨rfl, rfl⟩
    · simp [addressedAs]
    · have other : 127#8 ≠ s.straps.station.setWidth 8 := fun h => by
        have := congrArg BitVec.toNat h
        have := s.straps.station.isLt
        simp at *
        omega
      simp [addressedAs, other]
  have len : (byte (r.params.length + 1)).toNat = r.params.length + 1 := byte_toNat_of_lt (by omega)
  have code : (byte r.code).toNat = r.code := byte_toNat_of_lt (by cases r <;> simp [Request.code])
  rw [execAll_cons (addressCharacter_assembling take ready own), Request.frame, withCheck, List.map_append]
  rw [execAll_append _ _ _ (assembling how (byte (r.params.length + 1) :: byte r.code :: r.params) s)]
  · refine (execAll_cons (congrArg _ (dataCharacter_good_check rfl rfl ?_ (withCheck_sum _)))).trans ?_
    · rw [len]
      rfl
    · rw [request_assembling take, frameEffect_request (parametersReadBackAsWritten r fits), code, exec_row]
      rfl
  · rw [List.map_cons, execAll_cons (dataCharacter_assembling_len (by omega) (by omega))]
    exact execAll_assembling [] (by simp [len])

/-! ## Framing errors, gaps and samples (R179, R181) -/

section Sampling
variable {x : Samples} {samples : Tbl 11 Samples}

theorem Samples.majority_false_iff (x : Samples) : x.majority = false ↔
    x.first = false ∧ x.second = false ∨ x.first = false ∧ x.third = false ∨ x.second = false ∧ x.third = false := by
  obtain ⟨a, b, c⟩ := x
  revert a b c
  decide

/-- The level that two of the three samples read is the majority's. -/
theorem Samples.majority_eq {level : Bool}
    (h : x.first = level ∧ x.second = level ∨ x.first = level ∧ x.third = level ∨ x.second = level ∧ x.third = level) :
    x.majority = level := by
  cases level with
  | true => exact x.majority_iff.mpr h
  | false => exact x.majority_false_iff.mpr h

theorem sum_bits (value : Byte) : BitVec.ofNat 8 ((List.finRange 8).map fun i => bit (value.getLsbD i.val) i.val).sum = value := by
  revert value
  decide

theorem sampledValue_eq {value : Byte}
    (h : ∀ i : Fin 8, (samples.get ⟨i.val + 1, by omega⟩).majority = value.getLsbD i.val) : sampledValue samples = value := by
  simp only [sampledValue, h, sum_bits]

end Sampling

/-- Settles O9: the receiver's cases, and the majority of the samples bit by bit. -/
theorem framingErrorsAndGapsAbandonTheFrame : Obligations.FramingErrorsAndGapsAbandonTheFrame := by
  intro s
  refine ⟨fun take ready => ⟨fun how frame listening => ?_, fun quiet => ?_, ?_⟩, fun how frame listening running => ?_,
    fun stopped => ?_, fun responding => ?_, fun responding => ⟨?_, ?_⟩, fun take => ?_, fun samples => ⟨fun high => ?_,
    fun low stop => ?_, fun mark value low data marked stop => ?_⟩⟩
  · change Host.Outcome.next (framingError s) = _
    simp only [framingError, receiving_of take ready, listening]
    rfl
  · change Host.Outcome.next (framingError s) = _
    rcases quiet with h | h
    · simp only [framingError, receiving_of take ready, h]
      rfl
    · simp only [framingError, receiving_of take ready, h]
      rfl
  · exact congrArg _ (if_pos (receiving_of take ready))
  · change Host.Outcome.next (gapExpiry s) = _
    simp only [gapExpiry, running, listening]
    rfl
  · change Host.Outcome.next (gapExpiry s) = _
    simp only [gapExpiry, stopped]
  · change Host.Outcome.next (framingError s) = _
    rw [framingError, receiving_false (.inl responding)]
    rfl
  · change Host.Outcome.next (startBitAccepted s) = _
    rw [startBitAccepted, receiving_false (.inl responding)]
    rfl
  · exact congrArg _ (if_pos responding)
  · exact congrArg _ (if_neg take)
  · exact if_pos (Samples.majority_eq high)
  · simp [sampledCommands, Samples.majority_eq low, Samples.majority_eq stop]
  · have value_eq : sampledValue samples = value := sampledValue_eq fun i => Samples.majority_eq (data i)
    simp [sampledCommands, Samples.majority_eq low, Samples.majority_eq stop, Samples.majority_eq marked, value_eq]

/-! ## The response (R183, R199) -/

theorem characterBits_eq (mark : Bool) (value : Byte) : characterBits mark value =
    [false, value.getLsbD 0, value.getLsbD 1, value.getLsbD 2, value.getLsbD 3, value.getLsbD 4, value.getLsbD 5, value.getLsbD 6,
      value.getLsbD 7, mark, true] := rfl

theorem txCharacters_silent {s : State} (h : s.link.receiver ≠ .responding) : txCharacters s = [] := by
  unfold txCharacters
  split
  · next responding _ => exact absurd responding h
  · rfl

/-- Settles O10: TXD carries the frame of the response while RESPONDING, and nothing otherwise. -/
theorem responseIsSentAfterTheQuietTime : Obligations.ResponseIsSentAfterTheQuietTime := by
  intro s
  refine ⟨fun running r held => ⟨_, 255 - (byte (r.payload.length + 1) :: r.status.code :: r.payload).foldl (· + ·) 0,
    congrArg Host.Outcome.next (if_pos running), rfl, ?_, ?_, withCheck_sum _⟩, fun stopped => congrArg Host.Outcome.next (if_neg (by simp [stopped])),
    fun responding => ⟨_, congrArg Host.Outcome.next (if_pos responding), rfl, txCharacters_silent (by simp)⟩, fun take => ⟨congrArg Host.Outcome.next (if_neg take), ?_⟩⟩
  · simp only [txCharacters, State.setLink_link, held]
    rfl
  · rfl
  · rw [txBits, txCharacters_silent take]
    rfl

end Sys2Proof.Machine
end

section
/-! PROOF. Attention and BENCH_CLEAR (R188, R189, R194 to R196): what each raise merges, which level ATTEND hands over, and what a quiet
bench is cleared of. -/

namespace Sys2Proof.Machine

/-! ## Raises (R194) -/

section Raises
variable (s : State)

/-- Taking new content sets ATN afresh and touches nothing else. -/
theorem putAttn_eq (a : Attention) : ∃ atn, putAttn s a = { s with attn := { a with atn := atn } } ∧ AtnLaw (putAttn s a) :=
  ⟨_, rfl, atnLaw_putAttn s a⟩

theorem raiseOperator_eq (news : OperatorNews) : raiseOperator news s = putAttn s { s.attn with
    operator := some (match s.attn.operator with
      | none => news
      | some d => ⟨d.loaded ||| news.loaded, d.removed ||| news.removed, d.blocked ||| news.blocked⟩) } := by
  cases held : s.attn.operator with
  | none => simp [raiseOperator, held]
  | some d => simp [raiseOperator, held]

theorem raiseClosed_eq (set : PosSet) : raiseClosed set s = putAttn s { s.attn with
    closed := some (match s.attn.closed with | none => set | some d => d ||| set) } := by
  cases held : s.attn.closed with
  | none => simp [raiseClosed, held]
  | some d => simp [raiseClosed, held]

theorem raisePointEnd_eq (index : Nat) (short : PosSet) : raisePointEnd index short s = putAttn s { s.attn with
    pointEnd := some ⟨index, match s.attn.pointEnd with | none => short | some d => d.short ||| short⟩ } := by
  cases held : s.attn.pointEnd with
  | none => simp [raisePointEnd, held]
  | some d => simp [raisePointEnd, held]

theorem raiseFault_eq (kind : BitVec 7) (set : PosSet) : raiseFault kind set s = putAttn s { s.attn with
    fault := some (match s.attn.fault with | none => ⟨kind, set⟩ | some d => ⟨d.kinds ||| kind, d.positions ||| set⟩) } := by
  cases held : s.attn.fault with
  | none => simp [raiseFault, held]
  | some d => simp [raiseFault, held]

end Raises

/-- Settles O16: each raise is `putAttn` of the merged detail. -/
theorem everyRaiseMergesIntoItsClass : Obligations.EveryRaiseMergesIntoItsClass := by
  refine fun s => ⟨fun n => putAttn_eq s _, fun news => ?_, fun set => ?_, fun index short => ?_, fun ending => putAttn_eq s _,
    fun kind set => ?_⟩
  · rw [raiseOperator_eq]
    exact putAttn_eq s _
  · rw [raiseClosed_eq]
    exact putAttn_eq s _
  · rw [raisePointEnd_eq]
    exact putAttn_eq s _
  · rw [raiseFault_eq]
    exact putAttn_eq s _

/-! ## ATTEND (R195, R196) -/

section Attend
variable {s : State} {level : Nat}

theorem callingLevel_eq_zero (h : ∀ level, ¬calls s level) : callingLevel s.settings.attnMask s.attn = 0 := by
  by_contra calling
  obtain ⟨level, call⟩ := exists_calls_iff.mpr calling
  exact h level call

/-- The level that calls above all others is the calling level: the top pending level calls too, and none is above it. -/
theorem callingLevel_eq (call : calls s level) (top : ∀ higher, level < higher → ¬calls s higher) :
    callingLevel s.settings.attnMask s.attn = level := by
  cases level with
  | zero => exact absurd call not_calls_zero
  | succ i =>
    obtain ⟨pending, above⟩ := calls_succ_iff.mp call
    have below := lt_topLevel pending
    obtain ⟨n, n_eq⟩ := Nat.exists_eq_succ_of_ne_zero (Nat.ne_zero_of_lt below)
    have top_calls : calls s (n + 1) := calls_succ_iff.mpr ⟨getLsbD_of_topLevel n_eq, by omega⟩
    have not_higher : ¬i + 1 < n + 1 := fun higher => top _ higher top_calls
    simp only [callingLevel]
    rw [if_pos (by omega), n_eq]
    omega

theorem calls_le_six (call : calls s level) : 1 ≤ level ∧ level ≤ 6 := by
  obtain ⟨pending, -⟩ := call
  unfold isPending at pending
  split at pending
  case h_7 => exact pending.elim
  all_goals omega

/-- A class handed over is pending no more and in service; the others stay (R196). -/
theorem clearClass_eq (a : Attention) (low : 1 ≤ level) (high : level ≤ 6) : clearClass level a = { a with
    stockLow := if level = 1 then none else a.stockLow
    operator := if level = 2 then none else a.operator
    closed := if level = 3 then none else a.closed
    pointEnd := if level = 4 then none else a.pointEnd
    runEnd := if level = 5 then none else a.runEnd
    fault := if level = 6 then none else a.fault } := by
  match level, low, high with
  | 1, _, _ | 2, _, _ | 3, _, _ | 4, _, _ | 5, _, _ | 6, _, _ => rfl

theorem reqAttend_silent (h : callingLevel s.settings.attnMask s.attn = 0) : reqAttend s = answerOk [0] s := by
  simp only [reqAttend, h, if_true]

theorem reqAttend_calling (h : callingLevel s.settings.attnMask s.attn = level) (low : 1 ≤ level) :
    reqAttend s = answerOk (byte level :: detailBytes level s.attn) (putAttn s { clearClass level s.attn with
      inService := (clearClass level s.attn).inService ||| BitVec.twoPow 6 (level - 1) }) := by
  simp only [reqAttend, h]
  exact if_neg (by omega)

end Attend

/-- Settles O14: the calling level is handed over with its detail by `detailBytes` and cleared by `clearClass`. -/
theorem attendHandsOverTheHighestCallingClass : Obligations.AttendHandsOverTheHighestCallingClass := by
  intro s take
  refine ⟨fun silent => ?_, fun level call top => ?_⟩
  · exact request_addressed_eq_answered take (reqAttend_silent (s := s.setLink (takenLink s.link)) (callingLevel_eq_zero silent))
  · obtain ⟨low, high⟩ := calls_le_six call
    refine ⟨detailBytes level s.attn, putAttn s { clearClass level s.attn with
        inService := (clearClass level s.attn).inService ||| BitVec.twoPow 6 (level - 1) }, ?_, putAttn_frame s _, ?_, ?_, ?_, ?_, ?_,
      ?_, ?_, atnLaw_putAttn s _⟩
    · exact request_addressed_eq_answered take (reqAttend_calling (s := s.setLink (takenLink s.link)) (callingLevel_eq call top) low)
    · rintro n rfl held
      simp [detailBytes, held]
    · rintro d rfl held
      simp [detailBytes, held, setBytes]
    · rintro d rfl held
      simp [detailBytes, held, setBytes]
    · rintro d rfl held
      simp [detailBytes, held, setBytes]
    · rintro d rfl held
      simp [detailBytes, held]
    · rintro d rfl held
      simp [detailBytes, held, setBytes]
    · rw [clearClass_eq s.attn low high]
      rfl

/-! ## BENCH_CLEAR (R188, R189) -/

section BenchClear
variable {s : State}

/-- The test of the unit that BENCH_CLEAR makes. -/
def unitAtWork : UnitState → Bool
  | .homing => true
  | .moving _ => true
  | .pressing _ => true
  | _ => false

theorem unitAtWork_iff (u : UnitState) : unitAtWork u = true ↔ UnitBusy u := by
  cases u <;> simp [UnitBusy, unitAtWork]

theorem benchClearRefusal_eq (s : State) : benchClearRefusal s =
    if s.run.state ≠ .idle then some .busy
    else if unitAtWork s.closure.unit then some .busy
    else if !s.closure.queue.isEmpty then some .busy
    else if anyRec s (fun r => r.state = .closed && !r.closure.any (·.acknowledged)) then some .unreported
    else if anyRec s (fun r => r.state = .passed && r.spoiled.isSome) then some .unreported
    else none := rfl

theorem benchClearRefusal_busy (h : s.run.state ≠ .idle ∨ UnitBusy s.closure.unit ∨ s.closure.queue ≠ []) :
    benchClearRefusal s = some .busy := by
  rw [benchClearRefusal_eq]
  rcases h with h | h | h
  · simp [h]
  · rw [if_pos ((unitAtWork_iff _).mpr h), ite_self]
  · simp [h]

/-- Something the host has not acknowledged stands on a record (R188). -/
def Unreported (s : State) : Prop :=
  ∃ p, (getRec s p).state = .closed ∧ (∀ tag, (getRec s p).closure = some tag → tag.acknowledged = false) ∨
    (getRec s p).state = .passed ∧ (getRec s p).spoiled ≠ none

theorem unreported_iff : Unreported s ↔
    anyRec s (fun r => r.state = .closed && !r.closure.any (·.acknowledged)) = true ∨
      anyRec s (fun r => r.state = .passed && r.spoiled.isSome) = true := by
  rw [anyRec_iff, anyRec_iff, ← exists_or]
  refine exists_congr fun p => or_congr ?_ ?_
  · cases (getRec s p).closure <;> simp
  · simp [Option.isSome_iff_ne_none]

theorem benchClearRefusal_quiet (h : ¬(s.run.state ≠ .idle ∨ UnitBusy s.closure.unit ∨ s.closure.queue ≠ [])) :
    (Unreported s → benchClearRefusal s = some .unreported) ∧ (¬Unreported s → benchClearRefusal s = none) := by
  push Not at h
  obtain ⟨idle, still, empty⟩ := h
  rw [← unitAtWork_iff] at still
  have refusal : benchClearRefusal s =
      if anyRec s (fun r => r.state = .closed && !r.closure.any (·.acknowledged)) then some .unreported
      else if anyRec s (fun r => r.state = .passed && r.spoiled.isSome) then some .unreported else none := by
    rw [benchClearRefusal_eq]
    rw [if_neg (by simp [idle]), if_neg still, if_neg (by simp [empty])]
  rw [refusal, unreported_iff]
  constructor
  · rintro (closed | passed)
    · rw [if_pos closed]
    · rw [if_pos passed, ite_self]
  · intro reported
    push Not at reported
    rw [if_neg reported.1, if_neg reported.2]

theorem reqBenchClear_refused {st : Status} (h : benchClearRefusal s = some st) : reqBenchClear s = answer st s := by
  simp only [reqBenchClear, h]

/-- The part that an accepted BENCH_CLEAR leaves (R189). -/
def benchCleared (s : State) : State :=
  { s with
    table := ⟨Tbl.fill 48 ⟨.vacant, none, [], none, none, none⟩, []⟩
    link := { s.link with cursor := 0, mark := 0, edit := false }
    attn := ⟨none, none, none, none, none, none, 0, false⟩
    panel := { s.panel with mode := .none, modeTimer := none, scanBarred := s.panel.scanBarred || heldPress s } }

theorem callingLevel_clear (mask : BitVec 6) : callingLevel mask Attention.clear = 0 := by
  revert mask
  decide

theorem driveAtn_clear (mask : BitVec 6) : driveAtn mask Attention.clear = Attention.clear := by
  rw [driveAtn, callingLevel_clear]
  rfl

theorem reqBenchClear_accepted (h : benchClearRefusal s = none) : reqBenchClear s = answer .ok (benchCleared s) := by
  simp only [reqBenchClear, h, putAttn, driveAtn_clear]
  rfl

theorem heldPress_iff : heldPress s = true ↔
    ∃ k : Fin 56, s.panel.scanPresses.getLsbD k.val = true ∧ (s.panel.keys.get k).level = true := by
  simp [heldPress]

theorem endScan_barred (h : s.panel.scanBarred = true) :
    endScan s = s.setPanel { s.panel with scanPresses := 0, scanBarred := false } := by
  simp [endScan, actingKey, h]

theorem lampAppearance_benchCleared {slot : Pos} (test : s.panel.lampTest = none) (flash : s.panel.flashes.get slot = none) :
    lampAppearance (benchCleared s) slot = ⟨false, false, .off⟩ := by
  have vacant : getRec (benchCleared s) (slotOf s.settings.orient slot) = Record.vacant := Tbl.get_fill Record.vacant _
  have appearance : lampAppearance (benchCleared s) slot =
      recordAppearance (getRec (benchCleared s) (slotOf s.settings.orient slot)) := by
    simp [lampAppearance, benchCleared, test, flash]
  rw [appearance, vacant]
  rfl

end BenchClear

/-- Settles O13: the refusals in their order, and what `benchCleared` shows. -/
theorem benchClearEmptiesAQuietBench : Obligations.BenchClearEmptiesAQuietBench := by
  intro how s take
  refine ⟨fun busy => ?_, fun quiet unreported => ?_, fun quiet reported => ⟨benchCleared s, ?_, rfl, ?_, fun held => ?_,
    fun slot test flash => lampAppearance_benchCleared test flash⟩⟩
  · exact request_eq_answered take rfl (reqBenchClear_refused (s := s.setLink (takenLink s.link)) (benchClearRefusal_busy busy))
  · exact request_eq_answered take rfl
      (reqBenchClear_refused (s := s.setLink (takenLink s.link)) ((benchClearRefusal_quiet quiet).1 unreported))
  · exact request_eq_answered take rfl
      (reqBenchClear_accepted (s := s.setLink (takenLink s.link)) ((benchClearRefusal_quiet quiet).2 reported))
  · rw [← heldPress_iff]
    exact Bool.or_eq_true_iff
  · exact endScan_barred (Bool.or_eq_true_iff.mpr (.inr (heldPress_iff.mpr held)))

end Sys2Proof.Machine
end

section
/-! PROOF. The Position Table (R9 to R16, R20, R21) and the record cursor (R190 to R193), over the checks of a meter's fields and serial
said once, and what the index holds. -/

namespace Sys2Proof.Machine

/-! ## The checks of a meter (R10, R11) -/

section Checks
variable {mr : BitVec 32} {sense cls : Byte} {serial : List Byte} {k : Fin 4}

/-- A meter's fields are out of range (R11). -/
def FieldsBad (mr : BitVec 32) (sense cls : Byte) : Prop := mr = 0 ∨ 1 < sense.toNat ∨ 3 < cls.toNat

/-- A serial is too short, too long, or has a character outside 0x20..0x7E (R10). -/
def SerialBad (serial : List Byte) : Prop :=
  serial.length = 0 ∨ 16 < serial.length ∨ ∃ c ∈ serial, c.toNat < 0x20 ∨ 0x7E < c.toNat

theorem toNat_eq_zero_iff (x : BitVec 32) : x.toNat = 0 ↔ x = 0 := by rw [BitVec.toNat_eq]; rfl

theorem senseOfByte_eq_none (h : 1 < sense.toNat) : Sense.ofByte sense = none := by
  unfold Sense.ofByte
  split <;> first | omega | rfl

theorem senseOfByte_eq_some (h : sense.toNat ≤ 1) : Sense.ofByte sense = some (if sense = 0 then .rising else .falling) := by
  have cases_of : sense = 0 ∨ sense = 1 := by
    rcases Nat.le_one_iff_eq_zero_or_eq_one.mp h with zero | one
    · exact .inl (BitVec.eq_of_toNat_eq zero)
    · exact .inr (BitVec.eq_of_toNat_eq one)
  rcases cases_of with rfl | rfl
  · rfl
  · rfl

theorem classOfByte_eq_none (h : 3 < cls.toNat) : classOfByte cls = none := dif_neg (by omega)

theorem classOfByte_eq_some (h : cls.toNat = k.val) : classOfByte cls = some k := by
  simp [classOfByte, h]

theorem meterFields_bad (h : FieldsBad mr sense cls) : meterFields mr sense cls = none := by
  unfold meterFields
  rcases h with h | h | h
  · rw [if_pos ((toNat_eq_zero_iff mr).mpr h)]
  · simp only [senseOfByte_eq_none h, ite_self]
  · cases Sense.ofByte sense <;> simp only [classOfByte_eq_none h, ite_self]

theorem meterFields_good (ratio : mr ≠ 0) (sense_ok : sense.toNat ≤ 1) (class_ok : cls.toNat = k.val) :
    meterFields mr sense cls = some (mr.toNat, if sense = 0 then .rising else .falling, k) := by
  simp only [meterFields, senseOfByte_eq_some sense_ok, classOfByte_eq_some class_ok, toNat_eq_zero_iff, if_neg ratio]

theorem within_iff (lo hi n : Nat) : within lo hi n = true ↔ lo ≤ n ∧ n ≤ hi := by simp [within]

theorem within_eq_false_iff (lo hi n : Nat) : within lo hi n = false ↔ n < lo ∨ hi < n := by
  rw [← Bool.not_eq_true, within_iff]
  omega

theorem serialOk_iff (serial : List Byte) : serialOk serial = true ↔ ¬SerialBad serial := by
  simp only [serialOk, SerialBad, Bool.and_eq_true, within_iff, List.all_eq_true]
  push Not
  constructor
  · rintro ⟨⟨low, high⟩, chars⟩
    exact ⟨by omega, high, chars⟩
  · rintro ⟨low, high, chars⟩
    exact ⟨⟨by omega, high⟩, chars⟩

theorem serialOk_bad (h : SerialBad serial) : serialOk serial = false := by
  rw [← Bool.not_eq_true, serialOk_iff, not_not]
  exact h

end Checks

/-! ## The index (R9) -/

section Index
variable {index : List (Pos × List Byte)} {serial : List Byte} {p q : Pos}

theorem indexFind_isSome_iff : (indexFind index serial).isSome = true ↔ ∃ q, (q, serial) ∈ index := by
  simp [indexFind, List.find?_isSome]

theorem indexFind_isNone (h : ∀ q, (q, serial) ∉ index) : indexFind index serial = none := by
  rw [← Option.not_isSome_iff_eq_none, indexFind_isSome_iff]
  exact fun ⟨q, held⟩ => h q held

theorem mem_indexInsert (e : Pos × List Byte) : e ∈ indexInsert p serial index ↔ e = (p, serial) ∨ e ∈ index := by
  induction index with
  | nil => simp [indexInsert]
  | cons d rest ih =>
    unfold indexInsert
    split
    · simp
    · rw [List.mem_cons, ih, List.mem_cons]
      tauto

/-- A serial held once is found at its position. -/
theorem indexFind_eq_some (once : (index.map (·.2)).Nodup) (held : (q, serial) ∈ index) : indexFind index serial = some q := by
  induction index with
  | nil => cases held
  | cons d rest ih =>
    obtain ⟨not_later, later⟩ := List.nodup_cons.mp once
    rw [indexFind, List.find?_cons]
    rcases List.mem_cons.mp held with rfl | held
    · simp
    · have other : d.2 ≠ serial := fun same => not_later (List.mem_map.mpr ⟨_, held, same.symm⟩)
      rw [show (d.2 == serial) = false from beq_eq_false_iff_ne.mpr other]
      exact ih later held

theorem mem_index_iff {s : State} (law : IndexLaw s) : (q, serial) ∈ s.table.index ↔
    ∃ i, (getRec s q).identity = some i ∧ i.serial = serial := by
  rw [law.1, List.mem_filterMap]
  constructor
  · rintro ⟨p, -, entry⟩
    obtain ⟨i, identity, pair⟩ := Option.map_eq_some_iff.mp entry
    cases pair
    exact ⟨i, identity, rfl⟩
  · rintro ⟨i, identity, rfl⟩
    exact ⟨q, List.mem_finRange q, by rw [identity]; rfl⟩

end Index

/-! ## MOUNT and CONFIRM (R11, R12) -/

section Mount
variable {s : State} {b : Byte} {p : Pos} {mr : BitVec 32} {sense cls : Byte} {serial : List Byte} {m : Nat} {se : Sense} {k : Fin 4}

theorem mountAt_bad (h : FieldsBad mr sense cls ∨ SerialBad serial) : mountAt mr sense cls serial p s = answer .outOfRange s := by
  unfold mountAt
  rcases h with fields | chars
  · rw [meterFields_bad fields]
  · cases meterFields mr sense cls with
    | none => rfl
    | some f => exact if_pos (by simp [serialOk_bad chars])

/-- MOUNT once its fields and its serial are in range. -/
theorem mountAt_good (fields : meterFields mr sense cls = some (m, se, k)) (chars : ¬SerialBad serial) :
    mountAt mr sense cls serial p s =
      if (getRec s p).state ≠ .vacant then answer .wrongState s
      else if (indexFind s.table.index serial).isSome then answer .duplicate s
      else answer .ok (s.setTable ⟨s.table.records.set p ⟨.mounted, some ⟨serial, m, se, k⟩, [], none, none, none⟩,
        indexInsert p serial s.table.index⟩) := by
  unfold mountAt
  rw [fields]
  exact if_neg (by simp [(serialOk_iff serial).mpr chars])

theorem confirmPosition_mounted (h : (getRec s p).state = .mounted) :
    confirmPosition p s = (putRec s p { getRec s p with state := .ready }, .ok) := if_pos h

theorem confirmPosition_other (h : (getRec s p).state ≠ .mounted) : confirmPosition p s = (s, .wrongState) := if_neg h

/-- A position byte names a position or is too high (R2). -/
theorem position_cases (b : Byte) : 48 ≤ b.toNat ∨ ∃ p : Pos, b.toNat = p.val := by
  by_cases high : 48 ≤ b.toNat
  · exact .inl high
  · exact .inr ⟨⟨b.toNat, by omega⟩, rfl⟩

end Mount

/-- Settles O17: the checks of `mountAt` in their order, and the two cases of `confirmPosition`. -/
theorem mountAndConfirmBringAMeterToReady : Obligations.MountAndConfirmBringAMeterToReady := by
  refine ⟨fun b mr sense cls serial s take => ⟨fun bad => ?_, fun p k at_p ratio sense_ok class_ok chars => ?_⟩,
    fun b s take => ⟨request_atPosition_outOfRange take, fun p at_p => ⟨fun mounted => ?_, fun other => ?_⟩⟩⟩
  · rcases position_cases b with high | ⟨p, at_p⟩
    · exact request_atPosition_outOfRange take high
    · refine request_atPosition_eq_answered take at_p (mountAt_bad ?_)
      rcases bad with high | ratio | sense_bad | class_bad | chars
      · exact absurd p.isLt (by omega)
      · exact .inl (.inl ratio)
      · exact .inl (.inr (.inl sense_bad))
      · exact .inl (.inr (.inr class_bad))
      · exact .inr chars
  · have checked := mountAt_good (s := s.setLink (takenLink s.link)) (p := p) (meterFields_good ratio sense_ok class_ok) chars
    refine ⟨fun taken => ?_, fun vacant held => ?_, fun vacant new => ⟨_, fun e => mem_indexInsert e, ?_⟩⟩
    · exact request_atPosition_eq_answered take at_p (checked.trans (if_pos taken))
    · exact request_atPosition_eq_answered take at_p (checked.trans <| (if_neg (not_not.mpr vacant)).trans
        (if_pos (indexFind_isSome_iff.mpr held)))
    · refine request_atPosition_eq_answered take at_p (checked.trans <| (if_neg (not_not.mpr vacant)).trans (if_neg ?_))
      exact fun found => (indexFind_isSome_iff.mp found).elim new
  · exact request_atPosition_eq_answered take at_p
      (congrArg (fun r => answer r.2 r.1) (confirmPosition_mounted (s := s.setLink (takenLink s.link)) mounted))
  · exact request_atPosition_eq_answered take at_p
      (congrArg (fun r => answer r.2 r.1) (confirmPosition_other (s := s.setLink (takenLink s.link)) other))

/-! ## SET_METER (R13, R193) -/

section SetMeter
variable {s : State} {p : Pos} {mr : BitVec 32} {sense cls : Byte} {m : Nat} {se : Sense} {k : Fin 4}

theorem setMeterAt_bad (h : FieldsBad mr sense cls) : setMeterAt mr sense cls p s = (s, .outOfRange) := by
  simp only [setMeterAt, meterFields_bad h]

theorem setMeterAt_good (fields : meterFields mr sense cls = some (m, se, k)) : setMeterAt mr sense cls p s =
    if (getRec s p).state = .mounted ∨ (getRec s p).state = .ready then
      (putRec s p { getRec s p with identity := (getRec s p).identity.map fun i => { i with mr := m, sense := se, cls := k } }, .ok)
    else (s, .wrongState) := by
  simp only [setMeterAt, fields]

/-- With fields in range, only the class is needed to name them. -/
theorem class_of_not_fieldsBad (h : ¬FieldsBad mr sense cls) :
    ∃ k : Fin 4, cls.toNat = k.val ∧ meterFields mr sense cls = some (mr.toNat, if sense = 0 then .rising else .falling, k) := by
  simp only [FieldsBad] at h
  push Not at h
  obtain ⟨ratio, sense_ok, class_ok⟩ := h
  exact ⟨⟨cls.toNat, by omega⟩, rfl, meterFields_good ratio sense_ok rfl⟩

theorem setMeterAt_closed (h : ¬FieldsBad mr sense cls) (closed : ¬((getRec s p).state = .mounted ∨ (getRec s p).state = .ready)) :
    setMeterAt mr sense cls p s = (s, .wrongState) := by
  obtain ⟨k, -, fields⟩ := class_of_not_fieldsBad h
  rw [setMeterAt_good fields, if_neg closed]

theorem setMeterAt_open (h : ¬FieldsBad mr sense cls) (open_ : (getRec s p).state = .mounted ∨ (getRec s p).state = .ready)
    (class_eq : cls.toNat = k.val) : setMeterAt mr sense cls p s = (putRec s p { getRec s p with
      identity := (getRec s p).identity.map fun i =>
        { i with mr := mr.toNat, sense := if sense = 0 then .rising else .falling, cls := k } }, .ok) := by
  simp only [FieldsBad] at h
  push Not at h
  obtain ⟨ratio, sense_ok, -⟩ := h
  rw [setMeterAt_good (meterFields_good ratio sense_ok class_eq), if_pos open_]

theorem reqSetMeterNext_beyond (h : 48 ≤ s.link.cursor) :
    reqSetMeterNext mr sense cls s = (s, ⟨.outOfRange, [byte s.link.cursor, byte s.link.cursor]⟩) := dif_neg (by omega)

/-- SET_METER_NEXT is SET_METER at the cursor, which advances whatever the status (R193). -/
theorem reqSetMeterNext_at {u : State} {st : Status} (at_p : s.link.cursor = p.val) (h : setMeterAt mr sense cls p s = (u, st)) :
    reqSetMeterNext mr sense cls s =
      (u.setLink { u.link with cursor := p.val + 1 }, ⟨st, [byte p.val, byte (p.val + 1)]⟩) := by
  simp only [reqSetMeterNext, h, at_p]
  exact dif_pos p.isLt

end SetMeter

/-- Settles O18: SET_METER and SET_METER_NEXT are `setMeterAt` at the position named and at the cursor. -/
theorem setMeterReplacesRatioSenseAndClass : Obligations.SetMeterReplacesRatioSenseAndClass := by
  intro mr sense cls s take
  refine ⟨fun b => ⟨fun refused => ?_, fun p at_p good => ⟨fun closed => ?_, fun open_ k class_eq => ?_⟩⟩, fun beyond => ?_,
    fun p at_p => ⟨fun bad => ?_, fun good closed => ?_, fun good open_ k class_eq => ?_⟩⟩
  · rcases position_cases b with high | ⟨p, at_p⟩
    · exact request_atPosition_outOfRange take high
    · have bad : FieldsBad mr sense cls := refused.resolve_left (by have := p.isLt; omega)
      exact request_atPosition_eq_answered take at_p
        (congrArg (fun r => answer r.2 r.1) (setMeterAt_bad (s := s.setLink (takenLink s.link)) bad))
  · exact request_atPosition_eq_answered take at_p
      (congrArg (fun r => answer r.2 r.1) (setMeterAt_closed (s := s.setLink (takenLink s.link)) good closed))
  · exact request_atPosition_eq_answered take at_p
      (congrArg (fun r => answer r.2 r.1) (setMeterAt_open (s := s.setLink (takenLink s.link)) good open_ class_eq))
  · exact request_addressed_eq_answered take (reqSetMeterNext_beyond (s := s.setLink (takenLink s.link)) beyond)
  · exact request_addressed_eq_answered take
      (reqSetMeterNext_at (s := s.setLink (takenLink s.link)) at_p (setMeterAt_bad bad))
  · exact request_addressed_eq_answered take
      (reqSetMeterNext_at (s := s.setLink (takenLink s.link)) at_p (setMeterAt_closed good closed))
  · exact request_addressed_eq_answered take
      (reqSetMeterNext_at (s := s.setLink (takenLink s.link)) at_p (setMeterAt_open good open_ class_eq))

/-! ## ACK_TAG and ACK_SPOILED (R20, R21) -/

section Acks
variable {s : State} {p : Pos} {tag : BitVec 32} {held : ClosureTag} {number : Nat}

theorem tagOk_iff (tag : BitVec 32) : tagOk tag = true ↔ ¬(tag.toNat < 1 ∨ 999999999 < tag.toNat) := by
  rw [tagOk, within_iff, Config.tagMax]
  omega

theorem tagOk_bad (h : tag.toNat < 1 ∨ 999999999 < tag.toNat) : (!tagOk tag) = true := by
  rw [Bool.not_eq_true', ← Bool.not_eq_true, tagOk_iff, not_not]
  exact h

theorem ackTagAt_good (good : ¬(tag.toNat < 1 ∨ 999999999 < tag.toNat)) : ackTagAt tag p s =
    match (getRec s p).state, (getRec s p).closure with
    | .closed, some c =>
      if c.number ≠ tag.toNat then answer .mismatch s
      else answer .ok (putRec s p { getRec s p with closure := some { c with acknowledged := true } })
    | _, _ => answer .wrongState s := if_neg (by simp [(tagOk_iff tag).mpr good])

theorem ackTagAt_not_closed (good : ¬(tag.toNat < 1 ∨ 999999999 < tag.toNat)) (h : (getRec s p).state ≠ .closed) :
    ackTagAt tag p s = answer .wrongState s := by
  rw [ackTagAt_good good]
  cases state : (getRec s p).state with
  | closed => exact absurd state h
  | _ => rfl

theorem ackTagAt_closed (good : ¬(tag.toNat < 1 ∨ 999999999 < tag.toNat)) (closed : (getRec s p).state = .closed)
    (tagged : (getRec s p).closure = some held) : ackTagAt tag p s =
      if held.number ≠ tag.toNat then answer .mismatch s
      else answer .ok (putRec s p { getRec s p with closure := some ⟨held.number, true⟩ }) := by
  rw [ackTagAt_good good, closed, tagged]

theorem ackSpoiledAt_unspoiled (good : ¬(tag.toNat < 1 ∨ 999999999 < tag.toNat)) (h : (getRec s p).spoiled = none) :
    ackSpoiledAt tag p s = answer .wrongState s := by
  simp [ackSpoiledAt, (tagOk_iff tag).mpr good, h]

theorem ackSpoiledAt_spoiled (good : ¬(tag.toNat < 1 ∨ 999999999 < tag.toNat)) (h : (getRec s p).spoiled = some number) :
    ackSpoiledAt tag p s = if number ≠ tag.toNat then answer .mismatch s
      else answer .ok (putRec s p { getRec s p with spoiled := none }) := by
  simp [ackSpoiledAt, (tagOk_iff tag).mpr good, h]

end Acks

/-- Settles O21: the cases of `ackTagAt` and `ackSpoiledAt`. -/
theorem tagsAreAcknowledgedByTheirNumber : Obligations.TagsAreAcknowledgedByTheirNumber := by
  intro b tag s take
  refine ⟨fun refused => ?_, fun p at_p good => ⟨fun open_ => ?_, fun held closed tagged => ⟨fun other => ?_, fun same => ?_⟩,
    fun unspoiled => ?_, fun number spoiled => ⟨fun other => ?_, fun same => ?_⟩⟩⟩
  · rcases position_cases b with high | ⟨p, at_p⟩
    · exact ⟨request_atPosition_outOfRange take high, request_atPosition_outOfRange take high⟩
    · have bad := tagOk_bad (refused.resolve_left (by have := p.isLt; omega))
      exact ⟨request_atPosition_eq_answered take at_p (if_pos bad), request_atPosition_eq_answered take at_p (if_pos bad)⟩
  · exact request_atPosition_eq_answered take at_p (ackTagAt_not_closed (s := s.setLink (takenLink s.link)) good open_)
  · exact request_atPosition_eq_answered take at_p
      ((ackTagAt_closed (s := s.setLink (takenLink s.link)) good closed tagged).trans (if_pos other))
  · exact request_atPosition_eq_answered take at_p
      ((ackTagAt_closed (s := s.setLink (takenLink s.link)) good closed tagged).trans (if_neg (not_not.mpr same)))
  · exact request_atPosition_eq_answered take at_p (ackSpoiledAt_unspoiled (s := s.setLink (takenLink s.link)) good unspoiled)
  · exact request_atPosition_eq_answered take at_p
      ((ackSpoiledAt_spoiled (s := s.setLink (takenLink s.link)) good spoiled).trans (if_pos other))
  · exact request_atPosition_eq_answered take at_p
      ((ackSpoiledAt_spoiled (s := s.setLink (takenLink s.link)) good spoiled).trans (if_neg (not_not.mpr same)))

/-! ## FIND (R16) -/

section Find
variable {s : State} {serial : List Byte} {p : Pos}

theorem reqFind_bad (h : SerialBad serial) : reqFind serial s = answer .outOfRange s := if_pos (by simp [serialOk_bad h])

theorem reqFind_good (h : ¬SerialBad serial) : reqFind serial s =
    match indexFind s.table.index serial with
    | some p => answerOk [byte p.val, (getRec s p).state.code] s
    | none => answer .notFound s := if_neg (by simp [(serialOk_iff serial).mpr h])

end Find

/-- Settles O23: the index holds the serials of the records, each once. -/
theorem findAnswersTheRecordThatHoldsTheSerial : Obligations.FindAnswersTheRecordThatHoldsTheSerial := by
  intro serial s take law
  refine ⟨fun bad => ?_, fun good nobody => ?_, fun p i good identity same => ?_⟩
  · exact request_addressed_eq_answered take (reqFind_bad bad)
  · have absent : indexFind s.table.index serial = none := indexFind_isNone fun q held => by
      obtain ⟨i, identity, same⟩ := (mem_index_iff law).mp held
      exact nobody q i identity same
    refine request_addressed_eq_answered take ((reqFind_good good).trans ?_)
    rw [State.setLink_table, absent]
    rfl
  · have found : indexFind s.table.index serial = some p :=
      indexFind_eq_some law.2 ((mem_index_iff law).mpr ⟨i, identity, same⟩)
    refine request_addressed_eq_answered take ((reqFind_good good).trans ?_)
    rw [State.setLink_table, found]
    rfl

end Sys2Proof.Machine
end

section
/-! PROOF. What the part reports (R14, R109, R132, R138, R160, R190 to R192, R200 to R202): READ_RECORD, the record cursor and the status
reports, over facts about fields of a payload and about payloads made of pieces of one length. -/

namespace Sys2Proof.Machine

/-! ## Fields and pieces of a payload -/

section Payloads
variable {α : Type}

theorem byte_toNat (b : Byte) : byte b.toNat = b := by rw [byte, BitVec.ofNat_toNat, BitVec.setWidth_eq]

theorem byte_of_position {b : Byte} {p : Pos} (at_p : b.toNat = p.val) : byte p.val = b := by rw [← at_p, byte_toNat]

theorem byte_val (n : Nat) : (byte n).toNat = n % 256 := BitVec.toNat_ofNat n 8

theorem fieldAt_cons {i : Nat} (x : Byte) (rest : List Byte) (w : Nat) (after : 0 < i) :
    fieldAt (x :: rest) i w = fieldAt rest (i - 1) w := fieldAt_append_right [x] rest w after

theorem fieldAt_here (x : Byte) (rest : List Byte) : fieldAt (x :: rest) 0 1 = x.toNat := by
  simp [fieldAt, ofBe]

theorem drop_be_append {v n i : Nat} (rest : List Byte) (past : v ≤ i) : (be v n ++ rest).drop i = rest.drop (i - v) := by
  rw [List.drop_append, List.drop_eq_nil_of_le (by rwa [be_length]), List.nil_append, be_length]

theorem bit_isSome (x : Option α) (place : Nat) [Decidable (x = none)] : bit x.isSome place = if x = none then 0 else 2 ^ place := by
  cases x <;> simp [bit]

theorem length_flatMap_of_length {f : α → List Byte} {m : Nat} (each : ∀ a, (f a).length = m) (as : List α) :
    (as.flatMap f).length = m * as.length := by
  induction as with
  | nil => rfl
  | cons a as ih => rw [List.flatMap_cons, List.length_append, each, ih, List.length_cons]; ring

/-- Piece `j` of a payload of pieces of one length. -/
theorem take_drop_flatMap {f : α → List Byte} {m : Nat} (each : ∀ a, (f a).length = m) (as : List α) {j : Nat} (inside : j < as.length) :
    ((as.flatMap f).drop (m * j)).take m = f as[j] := by
  induction as generalizing j with
  | nil => simp at inside
  | cons a as ih =>
    rw [List.flatMap_cons]
    cases j with
    | zero => rw [Nat.mul_zero, List.drop_zero, List.take_left' (each a)]; rfl
    | succ j =>
      have past : (f a ++ as.flatMap f).drop (m * (j + 1)) = (as.flatMap f).drop (m * j) := by
        rw [Nat.mul_succ, Nat.add_comm, ← List.drop_drop, List.drop_left' (each a)]
      rw [past, ih (by simpa using inside)]
      rfl

end Payloads

/-! ## READ_RECORD (R14, R200) -/

section ReadRecord
variable {s : State} {b sec : Byte} {p : Pos} {r : Record} {k : Nat}

theorem recordFlags_eq (r : Record) : recordFlags r = (if r.identity = none then 0 else 1) + (if r.closure = none then 0 else 2) +
    (if r.closure.any (·.acknowledged) then 4 else 0) + if r.spoiled = none then 0 else 8 := by
  simp only [recordFlags, bit_isSome]
  rfl

theorem section0_eq (at_p : b.toNat = p.val) : section0 p r =
    b :: 0 :: r.state.code :: byte (recordFlags r) :: (be 4 ((r.identity.map (·.mr)).getD 0) ++
      ((r.identity.map (·.sense.code)).getD 0 :: byte ((r.identity.map (·.cls.val)).getD 0) :: byte r.results.length ::
      (be 4 ((r.closure.map (·.number)).getD 0) ++ (be 4 (r.spoiled.getD 0) ++
      (byte ((r.identity.map (·.serial)).getD []).length :: (((r.identity.map (·.serial)).getD []) ++
        List.replicate (16 - ((r.identity.map (·.serial)).getD []).length) 0)))))) := by
  simp only [section0, byte_of_position at_p, List.append_assoc, List.cons_append, List.nil_append]

theorem section0_fields (r : Record) :
    fieldAt (section0 p r) 10 1 = r.results.length % 256 ∧
      fieldAt (section0 p r) 11 4 = (r.closure.map (·.number)).getD 0 % 2 ^ 32 ∧
      fieldAt (section0 p r) 15 4 = r.spoiled.getD 0 % 2 ^ 32 ∧
      fieldAt (section0 p r) 4 4 = (r.identity.map (·.mr)).getD 0 % 2 ^ 32 ∧
      fieldAt (section0 p r) 8 1 = ((r.identity.map fun i : Identity => i.sense.code).getD 0).toNat ∧
      fieldAt (section0 p r) 9 1 = (r.identity.map (·.cls.val)).getD 0 % 256 ∧
      fieldAt (section0 p r) 19 1 = ((r.identity.map (·.serial)).getD []).length % 256 := by
  rw [section0_eq (b := byte p.val) (byte_toNat_of_lt (by have := p.isLt; omega))]
  refine ⟨?_, ?_, ?_, ?_, ?_, ?_, ?_⟩
  all_goals simp [fieldAt_cons, fieldAt_be_append, fieldAt_here, fieldAt_be, byte_val]

theorem section0_serial (r : Record) : (section0 p r).drop 20 = ((r.identity.map (·.serial)).getD []) ++
    List.replicate (16 - ((r.identity.map (·.serial)).getD []).length) 0 := by
  rw [section0_eq (b := byte p.val) (byte_toNat_of_lt (by have := p.isLt; omega))]
  simp [drop_be_append]

theorem readRecordAt_section0 (h : sec.toNat = 0) : readRecordAt sec p s = answerOk (section0 p (getRec s p)) s := by
  simp only [readRecordAt, h]

theorem readRecordAt_results (h : sec.toNat = k) (low : 1 ≤ k) (high : k ≤ 4) :
    readRecordAt sec p s = answerOk (sectionResults p k (getRec s p)) s := by
  match k, low, high with
  | 1, _, _ | 2, _, _ | 3, _, _ | 4, _, _ => simp only [readRecordAt, h]

theorem readRecordAt_beyond (h : 5 < sec.toNat) : readRecordAt sec p s = answer .outOfRange s := by
  unfold readRecordAt
  simp only
  split
  case h_7 => rfl
  all_goals omega

theorem readRecordAt_not_active (h : sec.toNat = 5) (state : (getRec s p).state ≠ .active) :
    readRecordAt sec p s = answer .wrongState s := by
  simp only [readRecordAt, h]
  split
  · next active _ => exact absurd active state
  · rfl

theorem readRecordAt_active {c : Context} (h : sec.toNat = 5) (active : (getRec s p).state = .active)
    (context : (getRec s p).context = some c) : readRecordAt sec p s = answerOk (sectionContext p c) s := by
  simp only [readRecordAt, h, active, context]

theorem beInt_length (w : Nat) (i : Int) : (beInt w i).length = w := be_length w _

theorem resultBytes_eq (e : PointResult) : resultBytes e = [e.outcome.code, e.method.code, byte e.repetitions,
    byte ((if e.value = none then 0 else 1) + (if e.spread = none then 0 else 2) + if e.saturated then 4 else 0)] ++
    beInt 3 (e.value.getD 0) ++ be 3 (e.spread.getD 0) := by
  simp only [resultBytes, bit_isSome]
  rfl

theorem resultBytes_length (e : PointResult) : (resultBytes e).length = 10 := by
  simp [resultBytes, beInt_length]

theorem resultBytes_filler : resultBytes fillerEntry = List.replicate 10 0 := by decide

theorem sectionResults_length (p : Pos) (k : Nat) (r : Record) : (sectionResults p k r).length = 42 := by
  rw [sectionResults, List.length_append, length_flatMap_of_length fun _ => resultBytes_length _]
  rfl

theorem sectionResults_entry (p : Pos) (k : Nat) (r : Record) {j : Nat} (inside : j < 4) :
    ((sectionResults p k r).drop (2 + 10 * j)).take 10 = resultBytes ((r.results[4 * (k - 1) + j]?).getD fillerEntry) := by
  rw [sectionResults, ← List.drop_drop]
  change (((List.range 4).flatMap fun i => resultBytes ((r.results[4 * (k - 1) + i]?).getD fillerEntry)).drop (10 * j)).take 10 = _
  refine (take_drop_flatMap (fun _ => resultBytes_length _) (List.range 4) (by simpa using inside)).trans ?_
  rw [List.getElem_range]

theorem sectionContext_eq (p : Pos) (c : Context) : sectionContext p c =
    byte p.val :: 5 :: c.phase.code :: byte (bit c.range.isSome 0 + bit c.saturated 1) :: (be 4 c.c0.toNat ++ (be 2 c.edges ++
      (beInt 4 c.sum ++ (beInt 3 ((c.range.map (·.1)).getD 0) ++ (beInt 3 ((c.range.map (·.2)).getD 0) ++
      (byte c.repetitions :: be 2 c.pulses)))))) := by
  simp only [sectionContext, List.append_assoc, List.cons_append, List.nil_append]

theorem sectionContext_length (p : Pos) (c : Context) : (sectionContext p c).length = 23 := by
  simp [sectionContext_eq, beInt_length]

theorem sectionContext_fields (p : Pos) (c : Context) :
    fieldAt (sectionContext p c) 4 4 = c.c0.toNat ∧ fieldAt (sectionContext p c) 8 2 = c.edges % 2 ^ 16 ∧
      fieldAt (sectionContext p c) 20 1 = c.repetitions % 256 ∧ fieldAt (sectionContext p c) 21 2 = c.pulses % 2 ^ 16 := by
  rw [sectionContext_eq, ← List.append_nil (be 2 c.pulses)]
  refine ⟨?_, ?_, ?_, ?_⟩
  · rw [← toNat_mod_bytes (w := 4) c.c0 (by decide)]
    simp [fieldAt_cons, fieldAt_be]
  all_goals simp [fieldAt_cons, fieldAt_be_append, fieldAt_here, fieldAt_be, byte_val, beInt, -List.append_nil]

theorem sectionContext_drops (p : Pos) (c : Context) :
    ((sectionContext p c).drop 10).take 4 = beInt 4 c.sum ∧
      ((sectionContext p c).drop 14).take 3 = beInt 3 ((c.range.map (·.1)).getD 0) ∧
      ((sectionContext p c).drop 17).take 3 = beInt 3 ((c.range.map (·.2)).getD 0) ∧
      ((sectionContext p c).drop 14).take 6 = beInt 3 ((c.range.map (·.1)).getD 0) ++ beInt 3 ((c.range.map (·.2)).getD 0) := by
  rw [sectionContext_eq]
  refine ⟨?_, ?_, ?_, ?_⟩
  · simp [drop_be_append, beInt]
  · simp [drop_be_append, beInt]
  · simp [drop_be_append, beInt]
  · simp [drop_be_append, List.take_append, beInt]

end ReadRecord

/-- Settles O22: each section's bytes are laid out once, and each field is read at its place. -/
theorem readRecordReturnsTheSectionAsked : Obligations.ReadRecordReturnsTheSectionAsked := by
  refine ⟨⟨rfl, rfl, rfl, rfl, rfl, rfl⟩, fun b sec s take => ⟨fun refused => ?_, fun p at_p => ⟨fun zero => ?_, fun k at_k low high => ?_,
    fun five idle => ?_, fun c five active context => ?_⟩⟩⟩
  · rcases position_cases b with high | ⟨p, at_p⟩
    · exact request_atPosition_outOfRange take high
    · have beyond : 5 < sec.toNat := refused.resolve_left (by have := p.isLt; omega)
      exact request_atPosition_eq_answered take at_p (readRecordAt_beyond (s := s.setLink (takenLink s.link)) beyond)
  · obtain ⟨results, closure, spoiled, mr, sense, cls, length⟩ := section0_fields (p := p) (getRec s p)
    have serial := section0_serial (p := p) (getRec s p)
    refine ⟨section0 p (getRec s p), ?_, ?_, results, ?_, spoiled, fun vacant => ⟨?_, ?_, ?_⟩, fun i identity => ?_⟩
    · exact request_atPosition_eq_answered take at_p (readRecordAt_section0 (s := s.setLink (takenLink s.link)) zero)
    · rw [section0_eq at_p, recordFlags_eq]
      rfl
    · rw [closure]
      cases (getRec s p).closure <;> rfl
    · rw [serial, vacant]
      rfl
    · rw [section0_eq at_p, vacant]
      rfl
    · rw [length, vacant]
      rfl
    · rw [mr, sense, cls, length, serial, identity]
      exact ⟨rfl, rfl, Nat.mod_eq_of_lt (by have := i.cls.isLt; simp; omega), rfl, rfl⟩
  · refine ⟨sectionResults p k (getRec s p), ?_, sectionResults_length .., ?_, fun j inside => ?_⟩
    · exact request_atPosition_eq_answered take at_p (readRecordAt_results (s := s.setLink (takenLink s.link)) at_k low high)
    · rw [← byte_of_position at_p, ← byte_toNat sec, at_k]
      rfl
    · rw [sectionResults_entry p k _ inside]
      cases (getRec s p).results[4 * (k - 1) + j]? with
      | none => exact resultBytes_filler
      | some e => exact resultBytes_eq e
  · exact request_atPosition_eq_answered take at_p (readRecordAt_not_active (s := s.setLink (takenLink s.link)) five idle)
  · obtain ⟨c0, edges, repetitions, pulses⟩ := sectionContext_fields p c
    obtain ⟨sum, low, high, both⟩ := sectionContext_drops p c
    refine ⟨sectionContext p c, ?_, sectionContext_length p c, ?_, c0, edges, sum, fun lo hi range => ?_, fun range => ?_, repetitions,
      pulses⟩
    · exact request_atPosition_eq_answered take at_p (readRecordAt_active (s := s.setLink (takenLink s.link)) five active context)
    · rw [sectionContext_eq, byte_of_position at_p, bit_isSome]
      rfl
    · rw [low, high, range]
      exact ⟨rfl, rfl⟩
    · rw [both, range]
      rfl

/-! ## The record cursor (R190 to R192) -/

section Cursor
variable {s : State} {cursor k : Byte} {p : Pos} {r : Record}

theorem reqCursorSet_eq (cursor : Byte) (s : State) : reqCursorSet cursor s =
    if 48 < cursor.toNat then answer .outOfRange s
    else if s.link.edit then answer .wrongState s
    else answerOk [cursor] (s.setLink { s.link with cursor := cursor.toNat }) := rfl

theorem positionsFrom_getElem {cursor k j : Nat} (inside : j < (positionsFrom cursor k).length) :
    ((positionsFrom cursor k)[j]).val = cursor + j := by
  simp [positionsFrom]

theorem summaryBytes_length (p : Pos) (r : Record) : (summaryBytes p r).length = 8 := rfl

theorem isNonPass_eq : isNonPass = fun e => decide (e.outcome ≠ .pass ∧ e.outcome ≠ .notRun) := by
  funext e
  cases h : e.outcome <;> simp [isNonPass, h]

theorem summaryBytes_eq (p : Pos) (r : Record) : summaryBytes p r =
    [byte p.val, r.state.code,
      byte ((if r.identity = none then 0 else 1) + (if r.closure = none then 0 else 2) +
        (if r.closure.any (·.acknowledged) then 4 else 0) + (if r.spoiled = none then 0 else 8) +
        if r.results.any (·.saturated) then 16 else 0),
      (match r.identity with | some i => byte i.cls.val | none => 0), byte r.results.length,
      byte (r.results.countP fun e => e.outcome = .pass),
      byte (r.results.countP fun e => e.outcome ≠ .pass ∧ e.outcome ≠ .notRun),
      match r.results.findIdx? (fun e => e.outcome ≠ .pass ∧ e.outcome ≠ .notRun) with
      | some i => byte i
      | none => 0xFF] := by
  have passes : (fun e : PointResult => e.outcome == .pass) = fun e => decide (e.outcome = .pass) := rfl
  have class_byte : byte ((r.identity.map (·.cls.val)).getD 0) = match r.identity with | some i => byte i.cls.val | none => 0 := by
    cases r.identity <;> rfl
  rw [summaryBytes, recordFlags_eq, isNonPass_eq, passes, class_byte]
  rfl

theorem reqReadNext_zero (h : k.toNat = 0) : reqReadNext k s = answer .outOfRange s := if_pos h

/-- READ_NEXT from a cursor in the table: as many summaries as are asked for, up to five and to the end (R191). -/
theorem reqReadNext_eq (low : 1 ≤ k.toNat) :
    reqReadNext k s =
      (s.setLink { s.link with
          cursor := if s.link.edit then s.link.cursor else s.link.cursor + min (min k.toNat 5) (48 - s.link.cursor) },
        ⟨if k.toNat ≤ 5 then .ok else .clamped,
          [byte (min (min k.toNat 5) (48 - s.link.cursor)),
            if s.link.cursor + min (min k.toNat 5) (48 - s.link.cursor) = 48 then 1 else 0,
            byte (if s.link.edit then s.link.cursor else s.link.cursor + min (min k.toNat 5) (48 - s.link.cursor))] ++
          (positionsFrom s.link.cursor (min k.toNat 5)).flatMap fun p => summaryBytes p (getRec s p)⟩) := by
  have last : ∀ n : Nat, byte (bit (n == 48) 0) = if n = 48 then 1 else 0 := fun n => by
    by_cases h : n = 48 <;> simp [h, bit, byte]
  unfold reqReadNext
  simp only [Config.summariesMax, positionsFrom_length, last]
  rw [if_neg (by omega)]
  cases editing : s.link.edit
  · rfl
  · simp only [if_true]
    rw [← editing]
    rfl

theorem reqEditBegin_eq (s : State) : reqEditBegin s = if s.link.edit then answer .wrongState s
    else answerOk [byte s.link.cursor] (s.setLink { s.link with mark := s.link.cursor, edit := true }) := rfl

theorem reqEditEnd_eq (s : State) : reqEditEnd s =
    if s.link.edit then answerOk [byte s.link.mark] (s.setLink { s.link with cursor := s.link.mark, edit := false })
    else answer .wrongState s := rfl

end Cursor

/-- Settles O25: the cursor's requests by their mode, and piece `j` of READ_NEXT's payload is the summary of the record at cursor + j. -/
theorem theRecordCursorWalksTheTable : Obligations.TheRecordCursorWalksTheTable := by
  intro s take
  refine ⟨fun cursor => ⟨fun beyond => ?_, fun inside editing => ?_, fun inside plain => ?_⟩, fun plain => ?_, fun editing => ?_,
    fun editing => ?_, fun plain => ?_, fun k => ⟨fun zero => ?_, fun low inside => ⟨_, _,
    (positionsFrom s.link.cursor (min k.toNat 5)).flatMap fun p => summaryBytes p (getRec s p), rfl, rfl, ?_, ?_, ?_⟩⟩⟩
  · exact request_addressed_eq_answered take (if_pos beyond)
  · exact request_addressed_eq_answered take ((if_neg (by omega)).trans (if_pos editing))
  · exact request_addressed_eq_answered take ((if_neg (by omega)).trans (if_neg (by simp [takenLink, plain])))
  · exact request_addressed_eq_answered take (if_neg (by simp [takenLink, plain]))
  · exact request_addressed_eq_answered take (if_pos editing)
  · exact request_addressed_eq_answered take (if_pos editing)
  · exact request_addressed_eq_answered take (if_neg (by simp [takenLink, plain]))
  · exact request_addressed_eq_answered take (reqReadNext_zero (s := s.setLink (takenLink s.link)) zero)
  · exact request_addressed_eq_answered take (reqReadNext_eq (s := s.setLink (takenLink s.link)) low)
  · rw [length_flatMap_of_length fun p => summaryBytes_length p _, positionsFrom_length]
  · intro j p counted at_p
    have piece : j < (positionsFrom s.link.cursor (min k.toNat 5)).length := by rwa [positionsFrom_length]
    have position : (positionsFrom s.link.cursor (min k.toNat 5))[j] = p :=
      Fin.ext ((positionsFrom_getElem piece).trans at_p.symm)
    refine (take_drop_flatMap (fun p => summaryBytes_length p _) _ piece).trans ?_
    rw [position]
    exact summaryBytes_eq p _

/-! ## Status reports (R109, R132, R138, R160, R202) -/

section Reports
variable {s : State}

theorem Tbl.flatMap_slotReport (t : Tbl 4 RollSlot) : t.cells.flatMap slotReport =
    slotReport (t.get 0) ++ slotReport (t.get 1) ++ slotReport (t.get 2) ++ slotReport (t.get 3) := by
  rw [Tbl.flatMap_cells_four]
  simp only [List.append_assoc]

theorem slotReport_eq (slot : RollSlot) : slotReport slot = match slot with
    | .empty => [0, 0, 0, 0, 0, 0, 0, 0, 0]
    | .loaded _ last next => 1 :: (be 4 next ++ be 4 last)
    | .exhausted _ last => 2 :: (be 4 (last + 1) ++ be 4 last) := by
  cases slot <;> rfl

theorem reportedLevel_eq (role : Role) (line : Filter) (reading : Bool) :
    reportedLevel role line reading = if role = .solo then reading else line.level := by
  cases role <;> rfl

theorem RunState.stageCode_eq (state : RunState) : state.stageCode = if state = .sourcing .awaitReady then 1 else 0 := by
  cases state with
  | sourcing stage => cases stage <;> rfl
  | idle | settling | measuring | held | following => rfl

theorem moveReport_eq (unit : UnitState) : moveReport unit =
    (match unit with | .moving ⟨.dwell, _, _, _, _, _, _⟩ => 1 | _ => 0,
      match unit with | .moving m => m.target | .pressing target => target | _ => 0,
      match unit with | .moving m => m.length | _ => 0, match unit with | .moving m => m.taken | _ => 0) := by
  cases unit with
  | moving m => obtain ⟨stage, _, _, _, _, _, _⟩ := m; cases stage <;> rfl
  | unhomed | homing | idle | pressing | fault => rfl

theorem Excitation.code_eq (e : Excitation) : byte e.code = if e = .half then 1 else 0 := by
  cases e <;> rfl

theorem bit_eq (b : Bool) (place : Nat) : bit b place = if b = true then 2 ^ place else 0 := rfl

theorem queued_length (queue : List Pos) (start : Nat) :
    ((queue.drop start).take Config.entriesMax).length = min 32 (queue.length - start) := by
  simp [Config.entriesMax]

end Reports

/-- Settles O38: each report is what its block holds, code by code. -/
theorem statusReportsShowTheirBlocks : Obligations.StatusReportsShowTheirBlocks := by
  intro s take
  refine ⟨?_, ?_, fun start => ⟨fun beyond => ?_, fun inside => ?_⟩, ?_⟩
  · refine request_addressed_eq_answered take ?_
    simp only [reqRunStatus, reportedLevel_eq, bit_eq, RunState.stageCode_eq]
    rfl
  · refine request_addressed_eq_answered take ?_
    simp only [reqStockRead, Tbl.flatMap_slotReport, slotReport_eq]
    rfl
  · exact request_addressed_eq_answered take (if_pos beyond)
  · refine request_addressed_eq_answered take ((if_neg (by omega)).trans ?_)
    simp only [queued_length]
    rfl
  · refine request_addressed_eq_answered take ?_
    simp only [reqClosureStatus, bit_eq, moveReport_eq, Excitation.code_eq]
    rfl

end Sys2Proof.Machine
end

section
/-! PROOF. What the closure unit does (R133 to R157), cut into single acts (`UnitAct`), each with what holds when it is done: a law of the
queue, the stock, the tags or the carriage is kept by every part of the unit once every act keeps it. -/

namespace Sys2Proof.Machine

/-! ## The acts -/

/-- A move the unit makes, or is about to make from IDLE for the head entry (R150, R151). -/
def Underway (s : State) (m : Move) : Prop :=
  (s.closure.unit = .moving m ∧ m.stage = .stepping) ∨
    s.closure.unit = .idle ∧ ∃ p rest, s.closure.queue = p :: rest ∧
      m = planMove s.settings s.closure.stepCount (pressLocation s.settings p)

/-- The unit dwells at the end of a move (R152). -/
def Dwelling (s : State) (m : Move) : Prop := s.closure.unit = .moving m ∧ m.stage = .dwell

/-- The record of a position changed, with the queue and the unit in the same act. -/
def putServed (s : State) (p : Pos) (r : Record) (c : Closure) : State := (putRec s p r).setClosure c

/-- One act of the closure unit or of its queue. -/
inductive UnitAct : State → State → Prop
  | attend {s} (a : Attention) : UnitAct s (putAttn s a)
  | lines {s} (home pressDone : Filter) : UnitAct s (s.setClosure { s.closure with home := home, pressDone := pressDone })
  | enqueue {s} (p : Pos) (open_ : closeRefusal p s = none) :
      UnitAct s (putServed s p { getRec s p with state := .closing } { s.closure with queue := s.closure.queue ++ [p] })
  | cancel {s} (p : Pos) (queued : p ∈ s.closure.queue) (waits : ¬(serving s.closure = true ∧ s.closure.queue.head? = some p)) :
      UnitAct s (putServed s p { getRec s p with state := .passed } { s.closure with queue := s.closure.queue.erase p })
  | beginHoming {s} (still : s.closure.unit = .unhomed ∨ s.closure.unit = .idle ∨ s.closure.unit = .fault) :
      UnitAct s (s.setClosure { s.closure with unit := .homing, energised := true, tally := 0 })
  | homingStep {s} (homing : s.closure.unit = .homing) : UnitAct s (homingStep s)
  | home {s} (homing : s.closure.unit = .homing) :
      UnitAct s (s.setClosure { s.closure with unit := .idle, stepCount := 0, stepTimer := none })
  | fault {s} (f : LastFault) (at_work : s.closure.unit = .homing ∨ ∃ m, Dwelling s m) : UnitAct s (s.setClosure (unitFault f s.closure))
  | step {s} (m : Move) (underway : Underway s m) (short : m.taken < m.length) : UnitAct s (takeStep m s)
  | arrive {s} (m : Move) (underway : Underway s m) (ended : m.length ≤ m.taken) :
      UnitAct s (s.setClosure { s.closure with unit := .moving { m with stage := .dwell }, stepTimer := none })
  | dwell {s} (m : Move) (dwelling : Dwelling s m) (timer : Option Timer) : UnitAct s (s.setClosure { s.closure with dwellTimer := timer })
  | fire {s} (m : Move) (i : Fin 4) (dwelling : Dwelling s m) (waits : s.closure.queue ≠ []) (drawn : drawSlot s.stock = some i) :
      UnitAct s ((s.setStock (s.stock.set i (drawnFrom (s.stock.get i)))).setClosure { s.closure with
        unit := .pressing m.target, tagInPress := some (nextTag (s.stock.get i)), press := true, dwellTimer := none,
        pressTimer := startTimer s.settings.pressTimeout })
  | complete {s} (target : Nat) (p : Pos) (rest : List Pos) (tag : Nat) (pressing : s.closure.unit = .pressing target)
      (queue : s.closure.queue = p :: rest) (inPress : s.closure.tagInPress = some tag) :
      UnitAct s (putServed s p { getRec s p with state := .closed, closure := some ⟨tag, false⟩ } { s.closure with
        queue := rest, tagInPress := none, unit := .idle, press := false, pressTimer := none })
  | spoil {s} (target : Nat) (p : Pos) (rest : List Pos) (tag : Nat) (pressing : s.closure.unit = .pressing target)
      (queue : s.closure.queue = p :: rest) (inPress : s.closure.tagInPress = some tag) :
      UnitAct s (putServed s p { getRec s p with state := .passed, spoiled := some tag }
        { unitFault (.pressTimeout p) s.closure with queue := rest, tagInPress := none })

section Acts
variable {s t : State}

/-- One act after another. -/
abbrev UnitActs : State → State → Prop := Relation.ReflTransGen UnitAct

theorem UnitActs.keep {law : State → Prop} (each : ∀ {u v}, UnitAct u v → law u → law v) (chain : UnitActs s t) (h : law s) : law t := by
  induction chain with
  | refl => exact h
  | tail _ act ih => exact each act ih

theorem UnitActs.ite {u : State} {c : Prop} [Decidable c] (h : UnitActs s t) (k : UnitActs s u) : UnitActs s (if c then t else u) := by
  split
  · exact h
  · exact k

/-! ## Every operation of the unit is made of acts -/

theorem firePress_acts {m : Move} (dwelling : Dwelling s m) (waits : s.closure.queue ≠ []) : UnitActs s (firePress m.target s) := by
  unfold firePress
  split
  · exact .refl
  · next i drawn =>
    have fired := Relation.ReflTransGen.single (UnitAct.fire m i dwelling waits drawn)
    exact .ite (fired.tail (.attend _)) fired

theorem dwellOver_acts {m : Move} (dwelling : Dwelling s m) : UnitActs s (dwellOver m.target s) := by
  unfold dwellOver
  split
  · exact .refl
  · next waits =>
    exact .ite ((Relation.ReflTransGen.single (.fault _ (.inr ⟨m, dwelling⟩))).tail (.attend _))
      (firePress_acts dwelling (by simp [waits]))

theorem arrive_acts {m : Move} (underway : Underway s m) (ended : m.length ≤ m.taken) : UnitActs s (arrive m s) := by
  have arrived := Relation.ReflTransGen.single (UnitAct.arrive m underway ended)
  have dwelling : Dwelling (s.setClosure { s.closure with unit := .moving { m with stage := .dwell }, stepTimer := none })
      { m with stage := .dwell } := ⟨rfl, rfl⟩
  exact .ite (arrived.trans (dwellOver_acts (m := { m with stage := .dwell }) dwelling)) (arrived.tail (.dwell _ dwelling _))

theorem serve_acts (s : State) : UnitActs s (serve s) := by
  unfold serve
  split
  · next p rest idle queue =>
    have underway : Underway s (planMove s.settings s.closure.stepCount (pressLocation s.settings p)) :=
      .inr ⟨idle, p, rest, queue, rfl⟩
    simp only
    refine .ite .refl ?_
    split
    · next there => exact arrive_acts underway (there ▸ Nat.zero_le _)
    · next away => exact .single (.step _ underway (Nat.pos_of_ne_zero away))
  · exact .refl

theorem reachHome_acts (homing : s.closure.unit = .homing) : UnitActs s (reachHome s) :=
  (Relation.ReflTransGen.single (UnitAct.home homing)).trans (serve_acts _)

theorem enterHoming_acts (still : s.closure.unit = .unhomed ∨ s.closure.unit = .idle ∨ s.closure.unit = .fault) :
    UnitActs s (enterHoming s) := by
  have begun := Relation.ReflTransGen.single (UnitAct.beginHoming still)
  exact .ite (begun.trans (reachHome_acts rfl)) (begun.tail (.homingStep rfl))

theorem completePress_acts {target : Nat} (pressing : s.closure.unit = .pressing target) : UnitActs s (completePress s) := by
  unfold completePress
  split
  · next p rest tag queue inPress =>
    have done := Relation.ReflTransGen.single (UnitAct.complete target p rest tag pressing queue inPress)
    exact (done.tail (.attend _)).trans (serve_acts _)
  · exact .refl

theorem stepExpiry_acts (s : State) : UnitActs s (stepExpiry s) := by
  unfold stepExpiry
  split
  · next homing =>
    exact .ite (.single (.homingStep homing)) ((Relation.ReflTransGen.single (.fault _ (.inl homing))).tail (.attend _))
  · next m _ moving =>
    split
    · next stepping =>
      split
      · next ended => exact arrive_acts (.inl ⟨moving, stepping⟩) ended
      · next short => exact .single (.step m (.inl ⟨moving, stepping⟩) (Nat.lt_of_not_le short))
    · exact .refl
  · exact .refl

theorem dwellExpiry_acts (s : State) : UnitActs s (dwellExpiry s) := by
  unfold dwellExpiry
  split
  · next m _ moving =>
    split
    · next at_end =>
      have dwelling : Dwelling (s.setClosure { s.closure with dwellTimer := none }) m := ⟨moving, at_end⟩
      exact (Relation.ReflTransGen.single (UnitAct.dwell m ⟨moving, at_end⟩ none)).trans (dwellOver_acts dwelling)
    · exact .refl
  · exact .refl

theorem UnitPart.acts (part : UnitPart s t) : UnitActs s t := by
  cases part with
  | close p =>
    unfold closePosition
    split
    · exact .refl
    · next open_ => exact (Relation.ReflTransGen.single (UnitAct.enqueue p open_)).trans (serve_acts _)
  | closeCancel p =>
    unfold closeCancelAt
    split
    · exact .refl
    · next waits =>
      split
      · exact .refl
      · next queued =>
        exact (Relation.ReflTransGen.single (UnitAct.cancel p (not_not.mp queued) waits)).trans (serve_acts _)
  | carriageHome =>
    unfold reqCarriageHome
    split
    · next unhomed => exact enterHoming_acts (.inl unhomed)
    · next idle => exact enterHoming_acts (.inr (.inl idle))
    all_goals exact .refl
  | closureClear =>
    unfold reqClosureClear
    split
    · next fault => exact enterHoming_acts (.inr (.inr fault))
    · exact .refl
  | stepExpiry => exact stepExpiry_acts s
  | dwellExpiry => exact dwellExpiry_acts s
  | pressExpiry =>
    unfold Machine.pressExpiry
    split
    · next target p rest tag _ pressing queue inPress =>
      exact (Relation.ReflTransGen.single (UnitAct.spoil target p rest tag pressing queue inPress)).tail (.attend _)
    · exact .refl
  | homeRise =>
    have heard := Relation.ReflTransGen.single (UnitAct.lines (s := s) (confirmed true) s.closure.pressDone)
    unfold Machine.homeRise
    simp only
    split
    · next homing => exact heard.trans (reachHome_acts homing)
    · exact heard
  | pressDoneRise =>
    have heard := Relation.ReflTransGen.single (UnitAct.lines (s := s) s.closure.home (confirmed true))
    unfold Machine.pressDoneRise
    simp only
    split
    · next target pressing => exact heard.trans (completePress_acts (target := target) pressing)
    · exact heard
  | lines home pressDone => exact .single (.lines home pressDone)

end Acts

end Sys2Proof.Machine
end

section
/-! PROOF. The records, the run and the queue agree, the stock serves its reservations, each tag number is in one place and the carriage is
within travel: what every act of the closure unit keeps (R123 to R129, R133, R142 to R158). -/

namespace Sys2Proof.Machine

/-! ## The laws without the clause on IDLE -/

/-- `QueueLaw` but for an entry that waits in IDLE. -/
structure QueueOrder (s : State) : Prop where
  once : s.closure.queue.Nodup
  closing : ∀ p, p ∈ s.closure.queue ↔ (getRec s p).state = .closing
  press : s.closure.tagInPress.isSome = s.closure.unit.isPressing
  served : serving s.closure = true → s.closure.queue ≠ []

/-- `BenchLaw` but for an entry that waits in IDLE: what every act keeps. -/
structure BenchOrder (s : State) : Prop where
  records : ∀ p, RecordLaw (getRec s p)
  run : RunLaw s
  queue : QueueOrder s

/-- No entry waits in IDLE but one whose CLOSE_CANCEL is the very next command (R139; log 29). -/
def IdleLaw (s : State) : Prop := s.closure.unit = .idle → s.closure.queue = [] ∨ CancelTogether s

theorem benchLaw_iff {s : State} : BenchLaw s ↔ BenchOrder s ∧ IdleLaw s :=
  ⟨fun ⟨records, run, once, closing, press, served, idle⟩ => ⟨⟨records, run, once, closing, press, served⟩, idle⟩,
    fun ⟨⟨records, run, once, closing, press, served⟩, idle⟩ => ⟨records, run, once, closing, press, served, idle⟩⟩

section Acts
variable {s t : State} {p : Pos} {r : Record} {c : Closure}

theorem getRec_putServed (q : Pos) : getRec (putServed s p r c) q = if q = p then r else getRec s q := getRec_putRec s p q r

theorem RunLaw.congr (h : RunLaw s) (run : t.run = s.run)
    (active : ∀ p, (getRec t p).state = .active ↔ (getRec s p).state = .active) : RunLaw t := by
  simpa only [RunLaw, run, active] using h

/-- An act that leaves the records and the queue as they are. -/
theorem BenchOrder.of_unit (h : BenchOrder s) (table : t.table = s.table) (run : t.run = s.run)
    (queue : t.closure.queue = s.closure.queue) (press : t.closure.tagInPress.isSome = t.closure.unit.isPressing)
    (served : serving t.closure = true → s.closure.queue ≠ []) : BenchOrder t where
  records p := getRec_congr table p ▸ h.records p
  run := h.run.congr run fun p => by rw [getRec_congr table]
  queue :=
    { once := queue ▸ h.queue.once
      closing := fun p => by rw [queue, getRec_congr table]; exact h.queue.closing p
      press := press
      served := queue ▸ served }

/-- An act that changes one record with the queue. -/
theorem BenchOrder.of_record (h : BenchOrder s) (law : RecordLaw r) (active : r.state = .active ↔ (getRec s p).state = .active)
    (once : c.queue.Nodup) (closing : ∀ q, q ∈ c.queue ↔ if q = p then r.state = .closing else q ∈ s.closure.queue)
    (press : c.tagInPress.isSome = c.unit.isPressing) (served : serving c = true → c.queue ≠ []) : BenchOrder (putServed s p r c) where
  records q := by
    rw [getRec_putServed]
    split
    · exact law
    · exact h.records q
  run := by
    refine h.run.congr rfl fun q => ?_
    rw [getRec_putServed]
    split
    · next at_p => rw [active, at_p]
    · rfl
  queue :=
    { once := once
      closing := fun q => by
        rw [getRec_putServed]
        refine (closing q).trans ?_
        split
        · rfl
        · exact h.queue.closing q
      press := press
      served := served }

theorem mem_erase_iff (once : s.closure.queue.Nodup) (q : Pos) :
    q ∈ s.closure.queue.erase p ↔ if q = p then False else q ∈ s.closure.queue := by
  rw [once.mem_erase_iff]
  by_cases at_p : q = p <;> simp [at_p]

theorem mem_tail_iff {rest : List Pos} (once : s.closure.queue.Nodup) (queue : s.closure.queue = p :: rest) (q : Pos) :
    q ∈ rest ↔ if q = p then False else q ∈ s.closure.queue := by
  rw [← mem_erase_iff once, queue, List.erase_cons_head]

theorem closeRefusal_eq_none (open_ : closeRefusal p s = none) : (getRec s p).state = .passed ∧ (getRec s p).spoiled = none ∧
    pressLocation s.settings p ≤ s.settings.travel ∧ reservations s.closure < remaining s.stock := by
  simp only [closeRefusal] at open_
  split_ifs at open_
  simp_all

theorem BenchOrder.closing_of_mem (h : BenchOrder s) (queued : p ∈ s.closure.queue) : (getRec s p).state = .closing :=
  (h.queue.closing p).mp queued

/-- A record in CLOSING has an identity, and neither a context nor a tag (R7). -/
theorem BenchOrder.closing_record (h : BenchOrder s) (closing : (getRec s p).state = .closing) :
    (getRec s p).identity ≠ none ∧ (getRec s p).context = none ∧ (getRec s p).closure = none ∧ (getRec s p).spoiled = none := by
  obtain ⟨identity, context, closure, spoiled, -⟩ := h.records p
  refine ⟨by simp [identity, closing], by simpa [closing] using context, by simpa [closing] using closure, ?_⟩
  rw [closing] at spoiled
  cases stored : (getRec s p).spoiled with
  | none => rfl
  | some n => rw [stored] at spoiled; exact absurd (spoiled rfl) (by decide)

theorem BenchOrder.passed_record (h : BenchOrder s) (passed : (getRec s p).state = .passed) :
    (getRec s p).identity ≠ none ∧ (getRec s p).context = none ∧ (getRec s p).closure = none := by
  obtain ⟨identity, context, closure, -, -⟩ := h.records p
  exact ⟨by simp [identity, passed], by simpa [passed] using context, by simpa [passed] using closure⟩

theorem BenchOrder.no_tag (h : BenchOrder s) (still : s.closure.unit.isPressing = false) : s.closure.tagInPress = none := by
  simpa [still] using h.queue.press

theorem BenchOrder.waits_of_dwelling {m : Move} (h : BenchOrder s) (dwelling : Dwelling s m) : s.closure.queue ≠ [] :=
  h.queue.served (by rw [serving, dwelling.1])

/-- A unit with a move underway does not press, and an entry is there to be served. -/
theorem BenchOrder.underway {m : Move} (h : BenchOrder s) (underway : Underway s m) :
    s.closure.unit.isPressing = false ∧ s.closure.queue ≠ [] := by
  rcases underway with ⟨moving, -⟩ | ⟨idle, q, rest, queue, -⟩
  · exact ⟨by rw [moving]; rfl, h.queue.served (by rw [serving, moving])⟩
  · exact ⟨by rw [idle]; rfl, by simp [queue]⟩

theorem BenchOrder.act (h : BenchOrder s) (act : UnitAct s t) : BenchOrder t := by
  cases act with
  | attend a => exact h.of_unit rfl rfl rfl h.queue.press h.queue.served
  | lines home pressDone => exact h.of_unit rfl rfl rfl h.queue.press h.queue.served
  | enqueue p open_ =>
    obtain ⟨passed, spoiled, -, -⟩ := closeRefusal_eq_none open_
    obtain ⟨identity, context, closure⟩ := h.passed_record passed
    have absent : p ∉ s.closure.queue := by simp [h.queue.closing, passed]
    refine h.of_record (by simp [RecordLaw, identity, context, closure, spoiled]) (by simp [passed]) ?_ (fun q => ?_) h.queue.press (by simp)
    · simp [List.nodup_append, h.queue.once]
      exact fun q queued at_p => absent (at_p ▸ queued)
    · by_cases at_p : q = p <;> simp [at_p]
  | cancel p queued waits =>
    have closing := h.closing_of_mem queued
    obtain ⟨identity, context, closure, spoiled⟩ := h.closing_record closing
    refine h.of_record (by simp [RecordLaw, identity, context, closure, spoiled]) (by simp [closing]) (h.queue.once.erase p)
      (fun q => ?_) h.queue.press fun busy => ?_
    · simpa using mem_erase_iff h.queue.once q
    · cases queue : s.closure.queue with
      | nil => exact absurd queue (h.queue.served busy)
      | cons q rest =>
        have other : q ≠ p := fun at_p => waits ⟨busy, by rw [queue, at_p]; rfl⟩
        simp [other]
  | beginHoming still =>
    refine h.of_unit rfl rfl rfl (h.queue.press.trans ?_) nofun
    rcases still with unit | unit | unit <;> rw [unit] <;> rfl
  | homingStep homing => exact h.of_unit rfl rfl rfl h.queue.press h.queue.served
  | home homing => exact h.of_unit rfl rfl rfl (h.queue.press.trans (by rw [homing]; rfl)) nofun
  | fault f at_work =>
    refine h.of_unit rfl rfl rfl (h.queue.press.trans ?_) nofun
    rcases at_work with unit | ⟨m, unit, -⟩ <;> rw [unit] <;> rfl
  | step m underway short =>
    obtain ⟨still, waits⟩ := h.underway underway
    exact h.of_unit rfl rfl rfl (h.queue.press.trans still) fun _ => waits
  | arrive m underway ended =>
    obtain ⟨still, waits⟩ := h.underway underway
    exact h.of_unit rfl rfl rfl (h.queue.press.trans still) fun _ => waits
  | dwell m dwelling timer => exact h.of_unit rfl rfl rfl h.queue.press h.queue.served
  | fire m i dwelling waits drawn => exact h.of_unit rfl rfl rfl rfl fun _ => waits
  | complete target p rest tag pressing queue inPress =>
    have closing := h.closing_of_mem (p := p) (by simp [queue])
    obtain ⟨identity, context, closure, spoiled⟩ := h.closing_record closing
    refine h.of_record (by simp [RecordLaw, identity, context, spoiled]) (by simp [closing]) ?_ (fun q => ?_) rfl nofun
    · exact (List.nodup_cons.mp (queue ▸ h.queue.once)).2
    · simpa using mem_tail_iff h.queue.once queue q
  | spoil target p rest tag pressing queue inPress =>
    have closing := h.closing_of_mem (p := p) (by simp [queue])
    obtain ⟨identity, context, closure, spoiled⟩ := h.closing_record closing
    refine h.of_record (by simp [RecordLaw, identity, context, closure]) (by simp [closing]) ?_ (fun q => ?_) rfl nofun
    · exact (List.nodup_cons.mp (queue ▸ h.queue.once)).2
    · simpa using mem_tail_iff h.queue.once queue q

/-! ## The stock (R123, R129) -/

theorem isLoaded_iff (slot : RollSlot) : isLoaded slot = true ↔ ∃ first last next, slot = .loaded first last next := by
  cases slot <;> simp [isLoaded]

theorem drawSlot_loaded {stock : Tbl 4 RollSlot} {i : Fin 4} (drawn : drawSlot stock = some i) :
    ∃ first last next, stock.get i = .loaded first last next :=
  (isLoaded_iff _).mp (List.find?_some (p := fun i => isLoaded (stock.get i)) drawn)

theorem slotOk_drawnFrom {slot : RollSlot} (ok : slotOk slot) : slotOk (drawnFrom slot) := by
  unfold drawnFrom
  split
  · obtain ⟨one, first, last, max⟩ := ok
    split
    · exact ⟨one, by omega, max⟩
    · exact ⟨one, by omega, by omega, max⟩
  · exact ok

theorem undrawn_drawnFrom {slot : RollSlot} (ok : slotOk slot) (loaded : isLoaded slot = true) :
    undrawn (drawnFrom slot) + 1 = undrawn slot := by
  obtain ⟨first, last, next, rfl⟩ := (isLoaded_iff slot).mp loaded
  obtain ⟨-, -, inside, -⟩ := ok
  simp only [drawnFrom]
  split <;> simp only [undrawn] <;> omega

theorem reservations_eq (c : Closure) : reservations c = c.queue.length - c.tagInPress.isSome.toNat := by
  unfold reservations
  cases c.tagInPress <;> rfl

theorem StockLaw.of_unit (h : StockLaw s) (stock : t.stock = s.stock) (fewer : reservations t.closure ≤ reservations s.closure) :
    StockLaw t := by
  obtain ⟨slots, served⟩ := h
  exact ⟨stock ▸ slots, stock ▸ fewer.trans served⟩

theorem StockLaw.set {i : Fin 4} {slot : RollSlot} (h : StockLaw s) (ok : slotOk slot) (j : Fin 4) : slotOk ((s.stock.set i slot).get j) := by
  rw [Tbl.get_set]
  split
  · exact ok
  · exact h.1 j

theorem StockLaw.act (h : StockLaw s) (bench : BenchOrder s) (act : UnitAct s t) : StockLaw t := by
  cases act with
  | attend a => exact h.of_unit rfl le_rfl
  | lines home pressDone => exact h.of_unit rfl le_rfl
  | enqueue p open_ =>
    obtain ⟨-, -, -, room⟩ := closeRefusal_eq_none open_
    refine ⟨h.1, ?_⟩
    simp only [reservations_eq, putServed, State.setClosure_closure, List.length_append, List.length_singleton] at room ⊢
    simp only [State.setClosure_stock, putRec, State.setTable_stock]
    omega
  | cancel p queued waits =>
    refine h.of_unit rfl ?_
    simp only [reservations_eq, putServed, State.setClosure_closure, List.length_erase_of_mem queued]
    omega
  | beginHoming still => exact h.of_unit rfl le_rfl
  | homingStep homing => exact h.of_unit rfl le_rfl
  | home homing => exact h.of_unit rfl le_rfl
  | fault f at_work => exact h.of_unit rfl le_rfl
  | step m underway short => exact h.of_unit rfl le_rfl
  | arrive m underway ended => exact h.of_unit rfl le_rfl
  | dwell m dwelling timer => exact h.of_unit rfl le_rfl
  | fire m i dwelling waits drawn =>
    have loaded : isLoaded (s.stock.get i) = true := List.find?_some (p := fun i => isLoaded (s.stock.get i)) drawn
    have empty : s.closure.tagInPress = none := bench.no_tag (by rw [dwelling.1]; rfl)
    have one := undrawn_drawnFrom (h.1 i) loaded
    have left := remaining_set_add s.stock i (drawnFrom (s.stock.get i))
    have served := h.2
    refine ⟨h.set (slotOk_drawnFrom (h.1 i)), ?_⟩
    simp only [reservations_eq, State.setClosure_closure, State.setClosure_stock, State.setStock_stock, empty] at served ⊢
    simp at served ⊢
    omega
  | complete target p rest tag pressing queue inPress =>
    refine h.of_unit rfl ?_
    simp [reservations, putServed, queue, inPress]
  | spoil target p rest tag pressing queue inPress =>
    refine h.of_unit rfl ?_
    simp [reservations, putServed, queue, inPress]

end Acts

end Sys2Proof.Machine
end

section
/-! PROOF. Each tag number is in one place and the carriage is within travel: what every act of the closure unit keeps (R125, R142 to R158). -/

namespace Sys2Proof.Machine

section Tags
variable {s t : State} {p : Pos} {r : Record} {c : Closure}

/-! ## The tags (R125) -/

theorem isHeld_mono {n : Nat} (records : ∀ p n, holdsTag (getRec t p) n → holdsTag (getRec s p) n)
    (press : ∀ n, t.closure.tagInPress = some n → s.closure.tagInPress = some n) (held : isHeld t n) : isHeld s n :=
  held.imp (fun ⟨p, on⟩ => ⟨p, records p n on⟩) (press n)

/-- No number joins the held or the undrawn ones. -/
theorem TagLaw.of_fewer (h : TagLaw s) (records : ∀ p n, holdsTag (getRec t p) n → holdsTag (getRec s p) n)
    (press : ∀ n, t.closure.tagInPress = some n → s.closure.tagInPress = some n)
    (stock : ∀ n i, undrawnIn n (t.stock.get i) → undrawnIn n (s.stock.get i)) : TagLaw t := by
  obtain ⟨single, inPress, drawn, apart⟩ := h
  exact ⟨fun p q n at_p at_q => single p q n (records p n at_p) (records q n at_q),
    fun p n at_p pressed => inPress p n (records p n at_p) (press n pressed),
    fun n i held undrawn => drawn n i (isHeld_mono records press held) (stock n i undrawn),
    fun n i j at_i at_j => apart n i j (stock n i at_i) (stock n j at_j)⟩

theorem TagLaw.of_unit (h : TagLaw s) (table : t.table = s.table) (press : t.closure.tagInPress = s.closure.tagInPress)
    (stock : t.stock = s.stock) : TagLaw t :=
  h.of_fewer (fun p n on => by rwa [getRec_congr table] at on) (fun n on => press ▸ on) (fun n i undrawn => stock ▸ undrawn)

/-- A record keeps the tags it holds. -/
theorem TagLaw.of_record (h : TagLaw s) (same : ∀ n, holdsTag r n → holdsTag (getRec s p) n)
    (press : c.tagInPress = s.closure.tagInPress) : TagLaw (putServed s p r c) := by
  refine h.of_fewer (fun q n on => ?_) (fun n on => press ▸ on) fun _ _ => id
  rw [getRec_putServed] at on
  split at on
  · next at_p => exact at_p ▸ same n on
  · exact on

/-- The tag in the press goes to the record of the head entry, which held none. -/
theorem TagLaw.from_press {tag : Nat} (h : TagLaw s) (inPress : s.closure.tagInPress = some tag) (gone : c.tagInPress = none)
    (holds : ∀ n, holdsTag r n → n = tag) : TagLaw (putServed s p r c) := by
  obtain ⟨single, pressed, drawn, apart⟩ := h
  have told : ∀ q n, holdsTag (getRec (putServed s p r c) q) n → q = p ∧ n = tag ∨ q ≠ p ∧ holdsTag (getRec s q) n := fun q n on => by
    rw [getRec_putServed] at on
    split at on
    · next at_p => exact .inl ⟨at_p, holds n on⟩
    · next other => exact .inr ⟨other, on⟩
  refine ⟨fun q q' n at_q at_q' => ?_, fun q n _ pressed => by simp [putServed, gone] at pressed, fun n i held => ?_, apart⟩
  · rcases told q n at_q with ⟨rfl, rfl⟩ | ⟨-, at_q⟩
    · rcases told q' n at_q' with ⟨rfl, -⟩ | ⟨-, at_q'⟩
      · rfl
      · exact absurd inPress (pressed q' n at_q')
    · rcases told q' n at_q' with ⟨-, rfl⟩ | ⟨-, at_q'⟩
      · exact absurd inPress (pressed q n at_q)
      · exact single q q' n at_q at_q'
  · refine drawn n i ?_
    rcases held with ⟨q, on⟩ | on
    · rcases told q n on with ⟨-, rfl⟩ | ⟨-, on⟩
      · exact .inr inPress
      · exact .inl ⟨q, on⟩
    · simp [putServed, gone] at on

theorem undrawnIn_drawnFrom {n : Nat} {slot : RollSlot} (undrawn : undrawnIn n (drawnFrom slot)) :
    undrawnIn n slot ∧ n ≠ nextTag slot := by
  cases slot with
  | empty => exact undrawn.elim
  | exhausted first last => exact undrawn.elim
  | loaded first last next =>
    simp only [drawnFrom] at undrawn
    split at undrawn
    · exact undrawn.elim
    · obtain ⟨low, high⟩ := undrawn
      exact ⟨⟨by omega, high⟩, by simp only [nextTag]; omega⟩

/-- A draw takes the slot's next number out of the undrawn ones (R128). -/
theorem TagLaw.draw {i : Fin 4} (h : TagLaw s) (stock : StockLaw s)
    (loaded : isLoaded (s.stock.get i) = true) (press : c.tagInPress = some (nextTag (s.stock.get i))) :
    TagLaw ((s.setStock (s.stock.set i (drawnFrom (s.stock.get i)))).setClosure c) := by
  obtain ⟨single, -, drawn, apart⟩ := h
  have fresh : undrawnIn (nextTag (s.stock.get i)) (s.stock.get i) := by
    obtain ⟨first, last, next, slot⟩ := (isLoaded_iff _).mp loaded
    have ok := stock.1 i
    rw [slot] at ok ⊢
    obtain ⟨-, -, inside, -⟩ := ok
    exact ⟨le_rfl, inside⟩
  have before : ∀ n j, undrawnIn n ((s.stock.set i (drawnFrom (s.stock.get i))).get j) →
      undrawnIn n (s.stock.get j) ∧ n ≠ nextTag (s.stock.get i) := fun n j undrawn => by
    rw [Tbl.get_set] at undrawn
    split at undrawn
    · next at_i =>
      subst at_i
      exact undrawnIn_drawnFrom undrawn
    · next other => exact ⟨undrawn, fun at_n => other (apart n j i undrawn (at_n ▸ fresh))⟩
  refine ⟨single, fun p n on pressed => ?_, fun n j held undrawn => ?_, fun n j k at_j at_k => apart n j k (before n j at_j).1 (before n k at_k).1⟩
  · have at_next : nextTag (s.stock.get i) = n := Option.some.inj (press.symm.trans pressed)
    exact drawn n i (.inl ⟨p, on⟩) (at_next ▸ fresh)
  · obtain ⟨undrawn, other⟩ := before n j undrawn
    rcases held with on | pressed
    · exact drawn n j (.inl on) undrawn
    · exact other (Option.some.inj (pressed.symm.trans press))

theorem TagLaw.act (h : TagLaw s) (stock : StockLaw s) (bench : BenchOrder s) (act : UnitAct s t) : TagLaw t := by
  cases act with
  | attend a => exact h.of_unit rfl rfl rfl
  | lines home pressDone => exact h.of_unit rfl rfl rfl
  | enqueue p open_ => exact h.of_record (fun _ => id) rfl
  | cancel p queued waits => exact h.of_record (fun _ => id) rfl
  | beginHoming still => exact h.of_unit rfl rfl rfl
  | homingStep homing => exact h.of_unit rfl rfl rfl
  | home homing => exact h.of_unit rfl rfl rfl
  | fault f at_work => exact h.of_unit rfl rfl rfl
  | step m underway short => exact h.of_unit rfl rfl rfl
  | arrive m underway ended => exact h.of_unit rfl rfl rfl
  | dwell m dwelling timer => exact h.of_unit rfl rfl rfl
  | fire m i dwelling waits drawn =>
    have loaded : isLoaded (s.stock.get i) = true := List.find?_some (p := fun i => isLoaded (s.stock.get i)) drawn
    exact h.draw stock loaded rfl
  | complete target p rest tag pressing queue inPress =>
    obtain ⟨-, -, -, spoiled⟩ := bench.closing_record (bench.closing_of_mem (p := p) (by simp [queue]))
    refine h.from_press inPress rfl fun n on => ?_
    simpa [holdsTag, spoiled, eq_comm] using on
  | spoil target p rest tag pressing queue inPress =>
    obtain ⟨-, -, closure, -⟩ := bench.closing_record (bench.closing_of_mem (p := p) (by simp [queue]))
    refine h.from_press inPress rfl fun n on => ?_
    simpa [holdsTag, closure, eq_comm] using on

end Tags

/-! ## The carriage (R142 to R158) -/

section Carriage
variable {s t : State} {m : Move}

/-- A move as planned ends at its target, within TRAVEL (R146, R150). -/
theorem moveOk_planMove {v : Settings} {count target travel : Nat} (inside : target ≤ travel) :
    moveOk count travel (planMove v count target) := by
  refine ⟨inside, Nat.zero_le _, nofun, ?_⟩
  simp only [planMove, distance, decide_eq_true_eq]
  split <;> omega

/-- A move underway is in order, and nothing of the press is at work. -/
theorem CarriageLaw.underway (h : CarriageLaw s) (underway : Underway s m) :
    s.closure.stepCount ≤ s.settings.travel ∧ moveOk s.closure.stepCount s.settings.travel m ∧ m.stage = .stepping ∧
      s.closure.energised = true ∧ s.closure.press = false ∧ s.closure.dwellTimer = none ∧ s.closure.pressTimer = none := by
  obtain ⟨reach, place, energised, press, -, dwell, pressTimer, -⟩ := h
  rcases underway with ⟨moving, stepping⟩ | ⟨idle, p, rest, queue, rfl⟩
  · rw [moving] at place energised press dwell pressTimer
    obtain ⟨inside, ok⟩ := place
    exact ⟨inside, ok, stepping, by simpa using energised, press, by simpa [stepping] using dwell,
      by simpa [UnitState.isPressing] using pressTimer⟩
  · rw [idle] at place energised press dwell pressTimer
    exact ⟨place, moveOk_planMove (reach p (by simp [queue])), rfl, by simpa using energised, press, by simpa using dwell,
      by simpa [UnitState.isPressing] using pressTimer⟩

/-- A dwelling unit stands at its target, and nothing of the press is at work. -/
theorem CarriageLaw.dwelling (h : CarriageLaw s) (dwelling : Dwelling s m) :
    s.closure.stepCount ≤ s.settings.travel ∧ s.closure.stepCount = m.target ∧ s.closure.energised = true ∧ s.closure.press = false ∧
      s.closure.stepTimer = none ∧ s.closure.pressTimer = none := by
  obtain ⟨moving, stage⟩ := dwelling
  obtain ⟨-, place, energised, press, step, -, pressTimer, -⟩ := h
  rw [moving] at place energised press step pressTimer
  obtain ⟨inside, -, -, ended, at_target⟩ := place
  have there : s.closure.stepCount = m.target := by
    rw [ended stage] at at_target
    split at at_target <;> omega
  exact ⟨inside, there, by simpa using energised, press, by simpa [stage] using step, by simpa [UnitState.isPressing] using pressTimer⟩

theorem stepIndex_lt (e : Excitation) (forward : Bool) (i : Nat) : stepIndex e forward i < if e = .full then 4 else 8 := by
  unfold stepIndex
  cases e <;> cases forward <;> exact Nat.mod_lt _ (by decide)

/-- An act that leaves the unit, the count, the phases and the timers as they are, and brings only positions within reach to the queue. -/
theorem CarriageLaw.of_queue (h : CarriageLaw s) (settings : t.settings = s.settings)
    (reach : ∀ p ∈ t.closure.queue, pressLocation s.settings p ≤ s.settings.travel)
    (same : ∃ queue home pressDone, t.closure = { s.closure with queue := queue, home := home, pressDone := pressDone }) :
    CarriageLaw t := by
  obtain ⟨queue, home, pressDone, same⟩ := same
  obtain ⟨-, rest⟩ := h
  refine ⟨settings ▸ reach, ?_⟩
  rw [settings, same]
  exact rest

theorem CarriageLaw.act (h : CarriageLaw s) (act : UnitAct s t) : CarriageLaw t := by
  have whole := h
  obtain ⟨reach, place, energised, press, step, dwell, pressTimer, ex⟩ := h
  cases act with
  | attend a => exact whole
  | lines home pressDone => exact whole.of_queue rfl reach ⟨_, _, _, rfl⟩
  | enqueue p open_ =>
    obtain ⟨-, -, inside, -⟩ := closeRefusal_eq_none open_
    refine whole.of_queue rfl (fun q queued => ?_) ⟨_, _, _, rfl⟩
    rcases List.mem_append.mp queued with queued | queued
    · exact reach q queued
    · exact List.mem_singleton.mp queued ▸ inside
  | cancel p queued waits => exact whole.of_queue rfl (fun q queued => reach q (List.mem_of_mem_erase queued)) ⟨_, _, _, rfl⟩
  | beginHoming still =>
    refine ⟨reach, trivial, rfl, ?_, fun _ => .inl rfl, fun on => ?_, fun on => ?_, ex⟩
    · refine Eq.trans press ?_
      rcases still with unit | unit | unit <;> rw [unit] <;> rfl
    · obtain ⟨m, moving, -⟩ := dwell on
      simp [moving] at still
    · have pressing := pressTimer on
      rcases still with unit | unit | unit <;> rw [unit] at pressing <;> cases pressing
  | homingStep homing =>
    refine ⟨reach, ?_, energised, press, fun _ => .inl homing, dwell, pressTimer, stepIndex_lt s.settings.excitation false s.closure.exIndex⟩
    change match s.closure.unit with | .idle => _ | .moving m => _ | .pressing target => _ | _ => True
    rw [homing]
    trivial
  | home homing =>
    rw [homing] at energised press dwell pressTimer
    exact ⟨reach, Nat.zero_le _, by simpa using energised, press, nofun, fun on => absurd (dwell on) (by simp), pressTimer, ex⟩
  | fault f at_work => exact ⟨reach, trivial, rfl, rfl, nofun, nofun, nofun, ex⟩
  | step m underway short =>
    obtain ⟨inside, ⟨target, taken, -, at_target⟩, stepping, phases, released, noDwell, noPress⟩ := whole.underway underway
    refine ⟨reach, ?_, phases, released, fun _ => .inr ⟨_, rfl, stepping⟩, fun on => ?_, fun on => ?_, stepIndex_lt s.settings.excitation _ _⟩
    · change (if m.forward then s.closure.stepCount + 1 else s.closure.stepCount - 1) ≤ s.settings.travel ∧
        moveOk (if m.forward then s.closure.stepCount + 1 else s.closure.stepCount - 1) s.settings.travel { m with taken := m.taken + 1 }
      have ahead : (if m.forward then s.closure.stepCount + 1 else s.closure.stepCount - 1) ≤ s.settings.travel ∧
          if m.forward then (if m.forward then s.closure.stepCount + 1 else s.closure.stepCount - 1) + (m.length - (m.taken + 1)) = m.target
          else m.target + (m.length - (m.taken + 1)) = if m.forward then s.closure.stepCount + 1 else s.closure.stepCount - 1 := by
        cases direction : m.forward <;> simp only [direction, if_true, Bool.false_eq_true, if_false] at at_target ⊢ <;> omega
      exact ⟨ahead.1, target, short, by simp [stepping], ahead.2⟩
    · exact absurd (noDwell ▸ on) (by simp)
    · exact absurd (noPress ▸ on) (by simp)
  | arrive m underway ended =>
    obtain ⟨inside, ⟨target, taken, -, at_target⟩, -, phases, released, noDwell, noPress⟩ := whole.underway underway
    refine ⟨reach, ⟨inside, target, taken, fun _ => Nat.le_antisymm taken ended, at_target⟩, phases, released, nofun,
      fun _ => ⟨_, rfl, rfl⟩, fun on => absurd (noPress ▸ on) (by simp), ex⟩
  | dwell m dwelling timer => exact ⟨reach, place, energised, press, step, fun _ => ⟨m, dwelling⟩, pressTimer, ex⟩
  | fire m i dwelling waits drawn =>
    obtain ⟨inside, there, phases, -, noStep, -⟩ := whole.dwelling dwelling
    exact ⟨reach, ⟨inside, there⟩, phases, rfl, fun on => absurd (noStep ▸ on) (by simp), nofun, fun _ => rfl, ex⟩
  | complete target p rest tag pressing queue inPress =>
    rw [pressing] at place energised step dwell
    have phases : s.closure.energised = true := by simpa using energised
    refine ⟨fun q queued => reach q (by rw [queue]; exact List.mem_cons_of_mem _ queued), place.1, phases, rfl, fun on => ?_,
      fun on => ?_, nofun, ex⟩
    · exact absurd (step on) (by simp)
    · exact absurd (dwell on) (by simp)
  | spoil target p rest tag pressing queue inPress =>
    exact ⟨fun q queued => reach q (by rw [queue]; exact List.mem_cons_of_mem _ queued), trivial, rfl, rfl, nofun, nofun, nofun, ex⟩

end Carriage

end Sys2Proof.Machine
end

section
/-! PROOF. What the requests of the Position Table do to the records and the index (R9 to R21, R189), cut into single acts, and the laws
that every such act keeps. -/

namespace Sys2Proof.Machine

/-! ## The acts -/

/-- A record written anew without a change of its serial, of its part in the run or in the queue, or of the tags it holds. -/
structure Rewrites (old new : Record) : Prop where
  law : RecordLaw old → RecordLaw new
  active : new.state = .active ↔ old.state = .active
  closing : new.state = .closing ↔ old.state = .closing
  serial : new.identity.map (·.serial) = old.identity.map (·.serial)
  tags : ∀ n, holdsTag new n → holdsTag old n

/-- One act on the table. -/
inductive RecordAct : State → State → Prop
  | keep {s} : RecordAct s s
  | clear {s} (quiet : benchClearRefusal s = none) : RecordAct s (s.setTable Table.empty)
  | rewrite {s} (p : Pos) (r : Record) (h : Rewrites (getRec s p) r) : RecordAct s (putRec s p r)
  | vacate {s} (p : Pos) (done : retireRefusal (getRec s p) = none) : RecordAct s (vacate p s)
  | mount {s} (p : Pos) (i : Identity) (vacant : (getRec s p).state = .vacant) (fresh : indexFind s.table.index i.serial = none) :
      RecordAct s (s.setTable ⟨s.table.records.set p { Record.vacant with state := .mounted, identity := some i },
        indexInsert p i.serial s.table.index⟩)

section Acts
variable {s t : State} {p : Pos} {r : Record}

theorem RecordPart.act (part : RecordPart s t) : RecordAct s t := by
  cases part with
  | clear quiet => exact .clear quiet
  | mount mr sense cls serial p =>
    unfold mountAt
    split
    · exact .keep
    · next m se c _ =>
      simp only
      split
      · exact .keep
      · split
        · exact .keep
        · next vacant =>
          split
          · exact .keep
          · next fresh => exact .mount p ⟨serial, m, se, c⟩ (not_not.mp vacant) (by simpa using fresh)
  | confirm p =>
    unfold confirmPosition
    simp only
    split
    · next mounted =>
      refine .rewrite p _ ⟨fun law => ?_, by simp [mounted], by simp [mounted], rfl, fun _ => id⟩
      obtain ⟨identity, context, closure, spoiled, -⟩ := law
      simp_all [RecordLaw]
    · exact .keep
  | setMeter mr sense cls p =>
    unfold setMeterAt
    split
    · exact .keep
    · next m se c _ =>
      simp only
      split
      · refine .rewrite p _ ⟨fun law => ?_, Iff.rfl, Iff.rfl, ?_, fun _ => id⟩
        · simpa [RecordLaw] using law
        · simp [Function.comp_def]
      · exact .keep
  | retire p =>
    unfold retirePosition
    split
    · exact .keep
    · next done => exact .vacate p done
  | retest p =>
    unfold retestAt
    simp only
    split
    · next failed =>
      refine .rewrite p _ ⟨fun law => ?_, by simp [failed], by simp [failed], rfl, fun _ => id⟩
      simpa [RecordLaw, failed] using law
    · next passed =>
      split
      · exact .keep
      · next unspoiled =>
        refine .rewrite p _ ⟨fun law => ?_, by simp [passed], by simp [passed], rfl, fun _ => id⟩
        simp [RecordLaw, passed] at law unspoiled ⊢
        simp [law, unspoiled]
    · exact .keep
  | ackTag tag p =>
    unfold ackTagAt
    simp only
    split
    · exact .keep
    · split
      · next c closed holds =>
        split
        · exact .keep
        · refine .rewrite p _ ⟨fun law => ?_, Iff.rfl, Iff.rfl, rfl, fun n on => ?_⟩
          · simpa [RecordLaw, holds] using law
          · simpa [holdsTag, holds] using on
      · exact .keep
  | ackSpoiled tag p =>
    unfold ackSpoiledAt
    simp only
    split
    · exact .keep
    · split
      · split
        · exact .keep
        · refine .rewrite p _ ⟨fun law => ?_, Iff.rfl, Iff.rfl, rfl, fun n on => ?_⟩
          · obtain ⟨identity, context, closure, -, results⟩ := law
            exact ⟨identity, context, closure, nofun, results⟩
          · exact .inl (by simpa [holdsTag] using on)
      · exact .keep

/-! ## The records and the queue -/

theorem getRec_cleared (s : State) (q : Pos) : getRec (s.setTable Table.empty) q = Record.vacant := by
  simp [getRec, Table.empty]

theorem retireRefusal_eq_none (h : retireRefusal r = none) : r.state ≠ .active ∧ r.state ≠ .closing := by
  unfold retireRefusal at h
  constructor <;> intro state <;> rw [state] at h <;> cases h

/-- One record of the table replaced, the index with it. -/
theorem BenchOrder.of_table (h : BenchOrder s) (run : t.run = s.run) (closure : t.closure = s.closure)
    (records : ∀ q, getRec t q = if q = p then r else getRec s q) (law : RecordLaw r)
    (active : r.state = .active ↔ (getRec s p).state = .active) (closing : r.state = .closing ↔ (getRec s p).state = .closing) :
    BenchOrder t := by
  have each : ∀ q, RecordLaw (getRec t q) ∧ ((getRec t q).state = .active ↔ (getRec s q).state = .active) ∧
      ((getRec t q).state = .closing ↔ (getRec s q).state = .closing) := fun q => by
    rw [records]
    split
    · next at_p => exact at_p ▸ ⟨law, active, closing⟩
    · exact ⟨h.records q, Iff.rfl, Iff.rfl⟩
  exact
    { records := fun q => (each q).1
      run := h.run.congr run fun q => (each q).2.1
      queue :=
        { once := closure ▸ h.queue.once
          closing := fun q => by rw [closure, (each q).2.2]; exact h.queue.closing q
          press := closure ▸ h.queue.press
          served := closure ▸ h.queue.served } }

theorem benchClearRefusal_eq_none (quiet : benchClearRefusal s = none) :
    s.run.state = .idle ∧ ¬UnitBusy s.closure.unit ∧ s.closure.queue = [] := by
  have calm := mt benchClearRefusal_busy (by rw [quiet]; nofun)
  push Not at calm
  exact calm

theorem serving_of_not_busy (still : ¬UnitBusy s.closure.unit) : serving s.closure = false := by
  unfold serving
  split
  · next m moving => exact absurd (.inr (.inl ⟨m, moving⟩)) still
  · next target pressing => exact absurd (.inr (.inr ⟨target, pressing⟩)) still
  · rfl

theorem BenchOrder.cleared (h : BenchOrder s) (quiet : benchClearRefusal s = none) : BenchOrder (s.setTable Table.empty) := by
  obtain ⟨idle, still, empty⟩ := benchClearRefusal_eq_none quiet
  obtain ⟨-, members, done⟩ := h.run
  have none : s.run.members = 0 := members.mp idle
  exact
    { records := fun q => by rw [getRec_cleared]; exact recordLaw_vacant
      run := ⟨fun q => by rw [getRec_cleared, State.setTable_run, none]; simp [Record.vacant], members, done⟩
      queue :=
        { once := h.queue.once
          closing := fun q => by rw [getRec_cleared, State.setTable_closure, empty]; simp [Record.vacant]
          press := h.queue.press
          served := fun busy => by simp [serving_of_not_busy still] at busy } }

theorem BenchOrder.recordAct (h : BenchOrder s) (act : RecordAct s t) : BenchOrder t := by
  cases act with
  | keep => exact h
  | clear quiet => exact h.cleared quiet
  | rewrite p r rewrites =>
    exact h.of_table (p := p) rfl rfl (fun q => getRec_putRec s p q r) (rewrites.law (h.records p)) rewrites.active rewrites.closing
  | vacate p done =>
    obtain ⟨active, closing⟩ := retireRefusal_eq_none done
    exact h.of_table (p := p) rfl rfl (fun q => getRec_vacate s p q) recordLaw_vacant (by simp [active, Record.vacant])
      (by simp [closing, Record.vacant])
  | mount p i vacant fresh =>
    exact h.of_table (p := p) rfl rfl (fun q => getRec_putRec s p q _) (by simp [RecordLaw, Record.vacant]) (by simp [vacant])
      (by simp [vacant])

theorem holdsTag_vacant (n : Nat) : ¬holdsTag Record.vacant n := by simp [holdsTag, Record.vacant]

theorem TagLaw.of_table (h : TagLaw s) (closure : t.closure = s.closure) (stock : t.stock = s.stock)
    (records : ∀ q, getRec t q = if q = p then r else getRec s q) (tags : ∀ n, holdsTag r n → holdsTag (getRec s p) n) : TagLaw t := by
  refine h.of_fewer (fun q n on => ?_) (fun n on => closure ▸ on) fun n i undrawn => stock ▸ undrawn
  rw [records] at on
  split at on
  · next at_p => exact at_p ▸ tags n on
  · exact on

theorem TagLaw.recordAct (h : TagLaw s) (act : RecordAct s t) : TagLaw t := by
  cases act with
  | keep => exact h
  | clear quiet =>
    refine h.of_fewer (fun q n on => ?_) (fun _ => id) fun _ _ => id
    rw [getRec_cleared] at on
    exact absurd on (holdsTag_vacant n)
  | rewrite p r rewrites => exact h.of_table (p := p) rfl rfl (fun q => getRec_putRec s p q r) rewrites.tags
  | vacate p done =>
    exact h.of_table (p := p) rfl rfl (fun q => getRec_vacate s p q) fun n on => absurd on (holdsTag_vacant n)
  | mount p i vacant fresh =>
    exact h.of_table (p := p) rfl rfl (fun q => getRec_putRec s p q _) fun n on => by simp [holdsTag, Record.vacant] at on

/-! ## The index (R9) -/

/-- The serials of records as the index lists them. -/
def serialsOf (meter : Pos → Option (List Byte)) (ps : List Pos) : List (Pos × List Byte) :=
  ps.filterMap fun p => (meter p).map (Prod.mk p)

/-- The serial of a position's record. -/
def serialAt (s : State) (p : Pos) : Option (List Byte) := (getRec s p).identity.map (·.serial)

theorem indexLaw_iff : IndexLaw s ↔
    s.table.index = serialsOf (serialAt s) (List.finRange 48) ∧ (s.table.index.map (·.2)).Nodup := by
  have listed : serialsOf (serialAt s) (List.finRange 48) =
      (List.finRange 48).filterMap fun p => (getRec s p).identity.map fun i => (p, i.serial) := by
    simp [serialsOf, serialAt, Function.comp_def]
  rw [listed]
  rfl

theorem IndexLaw.congr (h : IndexLaw s) (index : t.table.index = s.table.index) (serials : ∀ p, serialAt t p = serialAt s p) :
    IndexLaw t := by
  rw [indexLaw_iff] at h ⊢
  rwa [index, show serialAt t = serialAt s from funext serials]

theorem mem_serialsOf {meter : Pos → Option (List Byte)} {ps : List Pos} {e : Pos × List Byte} (listed : e ∈ serialsOf meter ps) :
    e.1 ∈ ps ∧ meter e.1 = some e.2 := by
  simp only [serialsOf, List.mem_filterMap, Option.map_eq_some_iff] at listed
  obtain ⟨q, in_ps, serial, at_q, rfl⟩ := listed
  exact ⟨in_ps, at_q⟩

theorem serialsOf_congr {meter other : Pos → Option (List Byte)} {ps : List Pos} (same : ∀ q ∈ ps, other q = meter q) :
    serialsOf other ps = serialsOf meter ps :=
  List.filterMap_congr fun q in_ps => by rw [same q in_ps]

/-- A serial put in at its position's place among serials by rising position. -/
theorem indexInsert_serialsOf {meter other : Pos → Option (List Byte)} {serial : List Byte} {ps : List Pos}
    (rising : ps.Pairwise (· < ·)) (inside : p ∈ ps) (vacant : meter p = none) (mounted : other p = some serial)
    (same : ∀ q, q ≠ p → other q = meter q) : indexInsert p serial (serialsOf meter ps) = serialsOf other ps := by
  induction ps with
  | nil => cases inside
  | cons q ps ih =>
    obtain ⟨above, rising⟩ := List.pairwise_cons.mp rising
    by_cases at_p : q = p
    · subst at_p
      have later : serialsOf other ps = serialsOf meter ps := serialsOf_congr fun r in_ps => same r (ne_of_gt (above r in_ps))
      have here : serialsOf other (q :: ps) = (q, serial) :: serialsOf meter ps := by
        rw [← later]
        simp [serialsOf, mounted]
      have none_here : serialsOf meter (q :: ps) = serialsOf meter ps := by simp [serialsOf, vacant]
      rw [here, none_here]
      cases entries : serialsOf meter ps with
      | nil => rfl
      | cons e rest =>
        have listed : e ∈ serialsOf meter ps := by simp [entries]
        rw [indexInsert, if_pos (above _ (mem_serialsOf listed).1)]
    · have inside : p ∈ ps := (List.mem_cons.mp inside).resolve_left (Ne.symm at_p)
      have below : ¬p < q := not_lt.mpr (le_of_lt (above p inside))
      have next := ih rising inside
      cases at_q : meter q with
      | none =>
        have skipped : ∀ meter : Pos → Option (List Byte), meter q = none → serialsOf meter (q :: ps) = serialsOf meter ps :=
          fun meter at_q => by simp [serialsOf, at_q]
        rw [skipped meter at_q, skipped other ((same q at_p).trans at_q), next]
      | some x =>
        have first : ∀ meter : Pos → Option (List Byte), meter q = some x → serialsOf meter (q :: ps) = (q, x) :: serialsOf meter ps :=
          fun meter at_q => by simp [serialsOf, at_q]
        rw [first meter at_q, first other ((same q at_p).trans at_q), indexInsert, if_neg below, next]

theorem indexErase_serialsOf {meter other : Pos → Option (List Byte)} (ps : List Pos) (vacant : other p = none)
    (same : ∀ q, q ≠ p → other q = meter q) : indexErase p (serialsOf meter ps) = serialsOf other ps := by
  induction ps with
  | nil => rfl
  | cons q ps ih =>
    have step : ∀ meter : Pos → Option (List Byte), serialsOf meter (q :: ps) = ((meter q).map (Prod.mk q)).toList ++ serialsOf meter ps :=
      fun meter => by cases at_q : meter q <;> simp [serialsOf, at_q]
    rw [step, step, indexErase, List.filter_append, ← ih, indexErase]
    congr 1
    by_cases at_p : q = p
    · subst at_p
      cases meter q <;> simp [vacant]
    · rw [same q at_p]
      cases meter q <;> simp [at_p]

theorem perm_indexInsert (serial : List Byte) (index : List (Pos × List Byte)) : (indexInsert p serial index).Perm ((p, serial) :: index) := by
  induction index with
  | nil => exact .refl _
  | cons e rest ih =>
    rw [indexInsert]
    split
    · exact .refl _
    · exact (ih.cons e).trans (.swap ..)

theorem indexFind_eq_none {index : List (Pos × List Byte)} {serial : List Byte} (fresh : indexFind index serial = none) :
    serial ∉ index.map (·.2) := by
  simp only [indexFind, Option.map_eq_none_iff, List.find?_eq_none] at fresh
  rintro listed
  obtain ⟨e, on, rfl⟩ := List.mem_map.mp listed
  simpa using fresh e on

theorem IndexLaw.recordAct (h : IndexLaw s) (bench : BenchOrder s) (act : RecordAct s t) : IndexLaw t := by
  cases act with
  | keep => exact h
  | clear quiet =>
    rw [indexLaw_iff]
    refine ⟨?_, .nil⟩
    simp only [serialsOf, serialAt, getRec_cleared]
    rfl
  | rewrite p r rewrites =>
    refine h.congr rfl fun q => ?_
    rw [serialAt, getRec_putRec]
    split
    · next at_p => rw [rewrites.serial, at_p]; rfl
    · rfl
  | vacate p done =>
    rw [indexLaw_iff] at h ⊢
    obtain ⟨listed, single⟩ := h
    refine ⟨?_, single.sublist (List.filter_sublist.map _)⟩
    change indexErase p s.table.index = _
    rw [listed]
    refine indexErase_serialsOf _ ?_ fun q other => ?_
    · simp [serialAt, Record.vacant]
    · simp [serialAt, other]
  | mount p i vacant fresh =>
    rw [indexLaw_iff] at h ⊢
    obtain ⟨listed, single⟩ := h
    have records : ∀ q, getRec (s.setTable ⟨s.table.records.set p { Record.vacant with state := .mounted, identity := some i },
        indexInsert p i.serial s.table.index⟩) q = if q = p then { Record.vacant with state := .mounted, identity := some i }
          else getRec s q := fun q => getRec_putRec s p q _
    constructor
    · refine (congrArg (indexInsert p i.serial) listed).trans ?_
      refine indexInsert_serialsOf (List.pairwise_lt_finRange 48) (List.mem_finRange p) ?_ ?_ fun q other => ?_
      · rw [serialAt, (bench.records p).1.mpr vacant]
        rfl
      · rw [serialAt, records, if_pos rfl]
        rfl
      · rw [serialAt, records, if_neg other]
        rfl
    · refine ((perm_indexInsert i.serial s.table.index).map (·.2)).nodup_iff.mpr ?_
      exact List.nodup_cons.mpr ⟨indexFind_eq_none fresh, single⟩

/-- The acts of the closure unit leave the serials as they are. -/
theorem IndexLaw.act (h : IndexLaw s) (act : UnitAct s t) : IndexLaw t := by
  have put : ∀ (p : Pos) (r : Record) (c : Closure), r.identity = (getRec s p).identity → IndexLaw (putServed s p r c) :=
    fun p r c same => h.congr rfl fun q => by
      rw [serialAt, getRec_putServed]
      split
      · next at_p => rw [same, at_p]; rfl
      · rfl
  cases act with
  | attend | lines | beginHoming | homingStep | home | fault | step | arrive | dwell | fire => exact h.congr rfl fun _ => rfl
  | enqueue | cancel | complete | spoil => exact put _ _ _ rfl

end Acts

end Sys2Proof.Machine
end

section
/-! PROOF. The records and the run agree (R3, R6, R87, R92, R203): what every operation of the run keeps. -/

namespace Sys2Proof.Machine

/-! ## What a run leaves of the records -/

/-- The record keeps its meter and its tags, and its place in or out of the queue. -/
def SameHold (r r' : Record) : Prop :=
  r'.identity = r.identity ∧ r'.closure = r.closure ∧ r'.spoiled = r.spoiled ∧ (r'.state = .closing ↔ r.state = .closing)

/-- A record in order whose results and live context alone differ from what they were. -/
def SameMember (r r' : Record) : Prop := (RecordLaw r → RecordLaw r') ∧ r'.state = r.state ∧ SameHold r r'

/-- The records are in order, and hold what they held in state `o`. -/
structure Holds (o s : State) : Prop where
  records : ∀ p, RecordLaw (getRec s p)
  same : ∀ p, SameHold (getRec o p) (getRec s p)
  index : s.table.index = o.table.index

/-- With it the members are the ACTIVE positions, and the done set is part of them. -/
structure Runs (o s : State) : Prop extends Holds o s where
  members : ∀ p, s.run.members.has p = true ↔ (getRec s p).state = .active
  done : ∀ p, s.run.done.has p = true → s.run.members.has p = true

/-- A run with members, under way. -/
structure Live (o s : State) : Prop extends Runs o s where
  live : s.run.state ≠ .idle
  some : s.run.members ≠ 0

/-- A run that is over or under way: IDLE exactly without members (R87). -/
structure RunsOrIdle (o s : State) : Prop extends Runs o s where
  idle : s.run.state = .idle ↔ s.run.members = 0

section Members
variable {o s t : State} {p : Pos} {r r' : Record}

theorem SameHold.refl (r : Record) : SameHold r r := ⟨rfl, rfl, rfl, Iff.rfl⟩

theorem SameHold.trans {r'' : Record} (h : SameHold r r') (k : SameHold r' r'') : SameHold r r'' := by
  obtain ⟨identity, closure, spoiled, closing⟩ := h
  obtain ⟨identity', closure', spoiled', closing'⟩ := k
  exact ⟨identity'.trans identity, closure'.trans closure, spoiled'.trans spoiled, closing'.trans closing⟩

/-- A record in READY or ACTIVE has a meter and holds no tag (R6, R7). -/
theorem untagged (law : RecordLaw r) (open_ : r.state = .ready ∨ r.state = .active) :
    r.identity ≠ none ∧ r.closure = none ∧ r.spoiled = none := by
  obtain ⟨identity, -, closure, spoiled, -⟩ := law
  refine ⟨?_, ?_, ?_⟩
  · rcases open_ with state | state <;> simp [identity, state]
  · rcases open_ with state | state <;> simpa [state] using closure
  · rcases open_ with state | state <;> simpa [state] using spoiled

theorem SameMember.refl (r : Record) : SameMember r r := ⟨id, rfl, .refl r⟩

theorem sameMember_active {results : List PointResult} {c : Context} (active : r.state = .active) :
    SameMember r { r with results := results, context := some c } := by
  refine ⟨fun law => ?_, rfl, rfl, rfl, rfl, Iff.rfl⟩
  obtain ⟨identity, context, closure, spoiled, -⟩ := law
  exact ⟨identity, by simp [active], closure, spoiled, fun vacant => by simp [active] at vacant⟩

theorem sameMember_finish (i : Nat) (result : Context → PointResult) (r : Record) : SameMember r (finishMember i result r) := by
  unfold finishMember
  split
  · split
    · next member => exact sameMember_active member.1
    · exact .refl r
  · exact .refl r

theorem sameMember_loseGate (r : Record) : SameMember r (loseGate r) := by
  unfold loseGate
  split
  · split
    · next member => exact sameMember_active member.1
    · exact .refl r
  · exact .refl r

theorem Live.runsOrIdle (h : Live o s) : RunsOrIdle o s := ⟨h.toRuns, iff_of_false h.live h.some⟩

theorem RunsOrIdle.live (h : RunsOrIdle o s) (live : s.run.state ≠ .idle) : Live o s := ⟨h.toRuns, live, mt h.idle.mpr live⟩

theorem RunsOrIdle.ite {c : Prop} [Decidable c] {u : State} (h : RunsOrIdle o t) (k : RunsOrIdle o u) : RunsOrIdle o (if c then t else u) := by
  split
  · exact h
  · exact k

theorem Holds.of_table (h : Holds o s) (table : t.table = s.table) : Holds o t where
  records p := getRec_congr table p ▸ h.records p
  same p := getRec_congr table p ▸ h.same p
  index := table ▸ h.index

theorem Runs.of_table (h : Runs o s) (table : t.table = s.table) (members : t.run.members = s.run.members)
    (done : ∀ p, t.run.done.has p = true → s.run.members.has p = true) : Runs o t where
  toHolds := h.toHolds.of_table table
  members p := by rw [members, getRec_congr table]; exact h.members p
  done p := members ▸ done p

theorem Live.of_table (h : Live o s) (table : t.table = s.table) (members : t.run.members = s.run.members)
    (done : ∀ p, t.run.done.has p = true → s.run.members.has p = true) (live : t.run.state ≠ .idle) : Live o t :=
  ⟨h.toRuns.of_table table members done, live, members ▸ h.some⟩

/-- The run changed in nothing but its state among what its members and the records must agree with. -/
theorem Live.setRun {r : Run} (h : Live o s) (live : r.state ≠ .idle) (members : r.members = s.run.members := by rfl)
    (done : r.done = s.run.done := by rfl) : Live o (s.setRun r) :=
  h.of_table rfl members (fun p on => h.done p (done ▸ on)) live

theorem RunsOrIdle.of_table (h : RunsOrIdle o s) (table : t.table = s.table) (members : t.run.members = s.run.members)
    (done : ∀ p, t.run.done.has p = true → s.run.members.has p = true) (idle : t.run.state = .idle ↔ s.run.state = .idle) :
    RunsOrIdle o t :=
  ⟨h.toRuns.of_table table members done, by rw [idle, members]; exact h.idle⟩

theorem Holds.mapRecs {f : Pos → Record → Record} (h : Holds o s)
    (each : ∀ p, RecordLaw (f p (getRec s p)) ∧ SameHold (getRec s p) (f p (getRec s p))) : Holds o (mapRecs f s) where
  records p := by rw [getRec_mapRecs]; exact (each p).1
  same p := by rw [getRec_mapRecs]; exact (h.same p).trans (each p).2
  index := h.index

theorem Runs.mapRecs {f : Pos → Record → Record} (h : Runs o s) (each : ∀ p, SameMember (getRec s p) (f p (getRec s p))) :
    Runs o (mapRecs f s) where
  toHolds := h.toHolds.mapRecs fun p => ⟨(each p).1 (h.records p), (each p).2.2⟩
  members p := by rw [getRec_mapRecs, (each p).2.1]; exact h.members p
  done := h.done

theorem Runs.putRec (h : Runs o s) (same : SameMember (getRec s p) r) : Runs o (putRec s p r) where
  records q := by
    rw [getRec_putRec]
    split
    · exact same.1 (h.records p)
    · exact h.records q
  same q := by
    rw [getRec_putRec]
    split
    · next at_p => exact at_p ▸ (h.same p).trans same.2.2
    · exact h.same q
  index := h.index
  members q := by
    rw [getRec_putRec]
    split
    · next at_p => rw [same.2.1, at_p]; exact h.members p
    · exact h.members q
  done := h.done

/-! ## The operations of the run -/

theorem Runs.startMeasurement (h : Runs o s) (point : Point) : Runs o (startMeasurement point s) := by
  have fresh : Runs o (Machine.mapRecs (fun _ r => if r.state = .active then { r with context := some freshContext } else r) s) :=
    h.mapRecs fun p => by
      split
      · next active => exact sameMember_active active
      · exact .refl _
  exact fresh.of_table rfl rfl (fun p on => by simp [Machine.startMeasurement] at on)

theorem Live.enterMeasuring (h : Live o s) : Live o (enterMeasuring s) := by
  unfold Machine.enterMeasuring
  split
  · exact h
  · next point _ =>
    have started := h.toRuns.startMeasurement point
    simp only
    split
    all_goals exact ⟨started.of_table rfl rfl started.done, nofun, h.some⟩

theorem Live.settleOver (h : Live o s) : Live o (settleOver s) := by
  have settled : Live o (s.setRun { s.run with settle := none }) := h.setRun h.live
  unfold Machine.settleOver
  simp only
  split
  · exact settled
  · exact settled.enterMeasuring

theorem Live.enterSettling (h : Live o s) : Live o (enterSettling s) := by
  unfold Machine.enterSettling
  split
  · exact h
  · simp only
    split
    · refine Live.settleOver ?_
      exact h.setRun nofun
    · exact h.setRun nofun

theorem Live.lookAtSource (h : Live o s) : Live o (lookAtSource s) := by
  unfold Machine.lookAtSource
  split
  · exact h.enterSettling
  · exact h.setRun nofun

theorem Runs.enterSourcing (h : Runs o s) (some : s.run.members ≠ 0) (point : s.run.state ≠ .idle ∨ currentPoint s ≠ none) :
    Live o (enterSourcing s) := by
  unfold Machine.enterSourcing
  split
  · next none => exact ⟨h, point.resolve_right (not_not_intro none), some⟩
  · simp only
    split
    · refine Live.lookAtSource ?_
      exact ⟨h.of_table rfl rfl h.done, nofun, some⟩
    · exact ⟨h.of_table rfl rfl h.done, nofun, some⟩

theorem Runs.stopEngine (h : Runs o s) : Runs o (stopEngine s) := h.of_table rfl rfl (by simp [Machine.stopEngine])

theorem Live.stopEngine (h : Live o s) : Live o (stopEngine s) := ⟨h.toRuns.stopEngine, h.live, h.some⟩

/-- Without members and without ACTIVE records a run is over. -/
theorem Holds.over (h : Holds o s) (none : ∀ p, (getRec s p).state ≠ .active) (table : t.table = s.table) (idle : t.run.state = .idle)
    (members : t.run.members = 0) (done : t.run.done = 0) : RunsOrIdle o t where
  toHolds := h.of_table table
  members p := by simp [members, getRec_congr table, none]
  done p := by simp [done]
  idle := iff_of_true idle members

theorem Holds.breakOff (h : Holds o s) (none : ∀ p, (getRec s p).state ≠ .active) (e : Ending) : RunsOrIdle o (breakOff e s) := by
  have done : (lowerPhase (stopRunTimers (stopEngine s).run)).done = 0 := by
    unfold lowerPhase
    split <;> rfl
  exact h.over none rfl rfl rfl done

/-- Members leave the run for a state without a context, which is neither CLOSING nor CLOSED nor VACANT nor MOUNTED. -/
theorem Runs.release (h : Runs o s) {f : Pos → Record → Record}
    (out : ∀ p r, s.run.members.has p = true → (f p r).state = .ready ∨ (f p r).state = .passed ∨ (f p r).state = .failed)
    (kept : ∀ p r, s.run.members.has p = true → f p r = { r with state := (f p r).state, context := none })
    (rest : ∀ p r, s.run.members.has p = false → f p r = r) :
    Holds o (Machine.mapRecs f s) ∧ ∀ p, (getRec (Machine.mapRecs f s) p).state ≠ .active := by
  refine ⟨h.toHolds.mapRecs fun p => ?_, fun p => ?_⟩
  · cases member : s.run.members.has p with
    | false => exact rest p _ member ▸ ⟨h.records p, .refl _⟩
    | true =>
      have active := (h.members p).mp member
      obtain ⟨known, untagged, unspoiled⟩ := untagged (h.records p) (.inr active)
      have open_ := out p (getRec s p) member
      rw [kept p _ member]
      generalize (f p (getRec s p)).state = after at open_
      refine ⟨?_, rfl, rfl, rfl, ?_⟩
      · rcases open_ with rfl | rfl | rfl <;> simp [RecordLaw, known, untagged, unspoiled]
      · rcases open_ with rfl | rfl | rfl <;> simp [active]
  · rw [getRec_mapRecs]
    cases member : s.run.members.has p with
    | false => rw [rest p _ member]; exact mt (h.members p).mpr (by simp [member])
    | true => rcases out p (getRec s p) member with state | state | state <;> rw [state] <;> decide

theorem Runs.completeRun (h : Runs o s) (done : s.run.done = 0) : RunsOrIdle o (completeRun s) := by
  obtain ⟨holds, none⟩ := h.release (f := fun p r => if s.run.members.has p then
      { r with state := if r.results.all (fun e => e.outcome = .pass) then .passed else .failed, context := none } else r)
    (fun p r member => by rw [if_pos member]; simp only; split <;> simp) (fun p r member => by rw [if_pos member])
    (fun p r other => by rw [if_neg (by simp [other])])
  exact holds.over none rfl rfl rfl done

theorem Runs.abortRun (h : Runs o s) : RunsOrIdle o (abortRun s) := by
  obtain ⟨holds, none⟩ := h.release (f := fun p r => if s.run.members.has p then { r with state := .ready, context := none } else r)
    (fun p r member => by rw [if_pos member]; exact .inl rfl) (fun p r member => by rw [if_pos member])
    (fun p r other => by rw [if_neg (by simp [other])])
  exact holds.breakOff none .aborted

theorem Live.afterPoint (h : Live o s) (done : s.run.done = 0) : RunsOrIdle o (afterPoint s) := by
  unfold Machine.afterPoint
  split
  · exact h.toRuns.completeRun done
  · split
    · refine Live.runsOrIdle ?_
      exact h.setRun nofun
    · have next : Live o (s.setRun (nextPoint s.run)) := h.setRun h.live
      exact (next.toRuns.enterSourcing next.some (.inl next.live)).runsOrIdle

theorem lowerPhase_eq (r : Run) : lowerPhase r =
    { r with phaseHigh := false, phaseLow := if r.phaseHigh then some ⟨3, 3⟩ else r.phaseLow } := by
  cases high : r.phaseHigh
  · simp only [lowerPhase, high, Bool.false_eq_true, if_false]
    rw [← high]
  · simp only [lowerPhase, high, if_true]
    rfl

theorem Live.endPoint (h : Live o s) (done : s.run.done = 0) : RunsOrIdle o (endPoint s) := by
  have ended : Live o (s.setRun (lowerPhase { s.run with guard := none, holdOff := none })) := by
    rw [lowerPhase_eq]
    exact h.setRun h.live
  have none_done : (s.setRun (lowerPhase { s.run with guard := none, holdOff := none })).run.done = 0 := by
    rw [lowerPhase_eq]
    exact done
  unfold Machine.endPoint
  generalize s.setRun (lowerPhase { s.run with guard := none, holdOff := none }) = u at ended none_done
  have raised : Live o (raisePointEnd u.run.index (shortMembers u) u) := ended.of_table rfl rfl ended.done ended.live
  exact raised.afterPoint none_done

theorem pointEndHolds_measuring (h : pointEndHolds s = true) : s.run.state = .measuring := by
  simp only [pointEndHolds, Bool.and_eq_true, decide_eq_true_eq] at h
  exact h.1.1

theorem RunsOrIdle.membersChanged (h : RunsOrIdle o s) : RunsOrIdle o (membersChanged s) := by
  unfold Machine.membersChanged
  split
  · exact h.of_table rfl rfl h.done Iff.rfl
  · split
    · next ended =>
      have live : s.run.state ≠ .idle := by rw [pointEndHolds_measuring ended]; nofun
      exact (h.live live).stopEngine.endPoint rfl
    · exact h

theorem Live.cutMeasurement (h : Live o s) : Live o (cutMeasurement s) ∧ (cutMeasurement s).run.done = 0 := by
  unfold Machine.cutMeasurement
  split
  · next point _ =>
    have finished : Live o (Machine.mapRecs (fun _ => finishMember s.run.index (cutResult point.body)) s) :=
      ⟨h.toRuns.mapRecs fun p => sameMember_finish _ _ _, h.live, h.some⟩
    exact ⟨finished.stopEngine, rfl⟩
  · exact ⟨h.stopEngine, rfl⟩

theorem Live.slavePointEnd (h : Live o s) : RunsOrIdle o (slavePointEnd s) := by
  obtain ⟨cut, done⟩ := h.cutMeasurement
  have raised : Live o (raisePointEnd (Machine.cutMeasurement s).run.index (shortMembers (Machine.cutMeasurement s)) (Machine.cutMeasurement s)) :=
    cut.of_table rfl rfl cut.done cut.live
  unfold Machine.slavePointEnd
  simp only
  split
  · exact raised.toRuns.completeRun done
  · refine Live.runsOrIdle ?_
    exact raised.setRun nofun

theorem RunsOrIdle.faultAbort (h : RunsOrIdle o s) (kind : BitVec 7) : RunsOrIdle o (faultAbort kind s) :=
  (h.toRuns.of_table (t := raiseFault kind 0 s) rfl rfl h.done).abortRun

/-! ## Every part of the run -/

theorem startRefusal_eq_none (open_ : startRefusal s = none) : s.run.state = .idle ∧ s.plan ≠ [] ∧ ∃ p, (getRec s p).state = .ready := by
  unfold startRefusal at open_
  split_ifs at open_ with busy slave empty nobody
  refine ⟨not_not.mp busy, empty, ?_⟩
  simpa [anyRec_iff] using nobody

theorem joinRun_of_ready {plan : List Point} (ready : r.state = .ready) : joinRun plan r =
    { r with state := .active, results := plan.map fun p => notRunEntry p.body.method, context := some freshContext } :=
  if_pos ready

theorem joinRun_of_not_ready {plan : List Point} (other : r.state ≠ .ready) : joinRun plan r = r := if_neg other

/-- RUN_START makes the READY records members, when there was none (R91). -/
theorem RunsOrIdle.start (h : RunsOrIdle o s) : RunsOrIdle o (reqRunStart s).1 := by
  unfold reqRunStart
  split
  · exact h
  · next open_ =>
    obtain ⟨idle, plan, p, ready⟩ := startRefusal_eq_none open_
    have none : ∀ q, (getRec s q).state ≠ .active := fun q active => by
      simpa [h.idle.mp idle] using (h.members q).mpr active
    have joined : Holds o (Machine.mapRecs (fun _ => joinRun s.plan) s) := h.toHolds.mapRecs fun q => by
      by_cases ready : (getRec s q).state = .ready
      · rw [joinRun_of_ready ready]
        obtain ⟨known, untagged, unspoiled⟩ := untagged (h.records q) (.inl ready)
        exact ⟨by simp [RecordLaw, known, untagged, unspoiled], rfl, rfl, rfl, by simp [ready]⟩
      · rw [joinRun_of_not_ready ready]
        exact ⟨h.records q, .refl _⟩
    have started : Runs o ((Machine.mapRecs (fun _ => joinRun s.plan) s).setRun { s.run with
        index := 0, measured := false, hold := false, members := recsWith s fun r => r.state = .ready, done := 0 }) :=
      { toHolds := joined.of_table rfl
        members := fun q => by
          refine (by simp : (recsWith s fun r => r.state = .ready).has q = true ↔ (getRec s q).state = .ready).trans ?_
          change _ ↔ (getRec (Machine.mapRecs (fun _ => joinRun s.plan) s) q).state = .active
          rw [getRec_mapRecs]
          by_cases ready : (getRec s q).state = .ready
          · rw [joinRun_of_ready ready]
            exact iff_of_true ready rfl
          · rw [joinRun_of_not_ready ready]
            exact iff_of_false ready (none q)
        done := fun q on => by simp at on }
    have some : recsWith s (fun r => r.state = .ready) ≠ 0 := fun zero => by
      have := (PosSet.eq_zero_iff _).mp zero p
      simp [ready] at this
    simp only
    split
    · refine Live.runsOrIdle ?_
      exact ⟨started.of_table rfl rfl started.done, nofun, some⟩
    · refine (started.enterSourcing some (.inr ?_)).runsOrIdle
      change s.plan[0]? ≠ Option.none
      simpa using plan

theorem Runs.afterExclusion (h : Runs o s) (live : s.run.state ≠ .idle) : RunsOrIdle o (afterExclusion s) := by
  unfold Machine.afterExclusion
  split
  · next none =>
    refine h.toHolds.breakOff (fun p active => ?_) .emptied
    simpa [none] using (h.members p).mpr active
  · next some => exact (⟨h, live, some⟩ : Live o s).runsOrIdle.membersChanged

theorem RunsOrIdle.exclude (h : RunsOrIdle o s) (p : Pos) : RunsOrIdle o (excludeAt p s).1 := by
  unfold excludeAt
  simp only
  split
  · exact h
  · next member =>
    have active : (getRec s p).state = .active := not_not.mp member
    obtain ⟨known, untagged, unspoiled⟩ := untagged (h.records p) (.inr active)
    have live : s.run.state ≠ .idle := fun idle => by simpa [h.idle.mp idle] using (h.members p).mpr active
    refine Runs.afterExclusion ?_ live
    refine ⟨⟨fun q => ?_, fun q => ?_, h.index⟩, fun q => ?_, fun q on => ?_⟩
    · change RecordLaw (getRec (Machine.putRec s p _) q)
      rw [getRec_putRec]
      split
      · simp [RecordLaw, known, untagged, unspoiled]
      · exact h.records q
    · change SameHold _ (getRec (Machine.putRec s p _) q)
      rw [getRec_putRec]
      split
      · next at_p =>
        subst at_p
        exact (h.same q).trans ⟨rfl, rfl, rfl, by simp [active]⟩
      · exact h.same q
    · change (s.run.members.erase p).has q = true ↔ (getRec (Machine.putRec s p _) q).state = .active
      rw [getRec_putRec, PosSet.has_erase]
      split
      · next at_p => simp [at_p]
      · next other => simpa [other] using h.members q
    · simp only [State.setRun_run, PosSet.has_erase, Bool.and_eq_true] at on ⊢
      exact ⟨h.done q on.1, on.2⟩

theorem RunsOrIdle.applyEdge (h : RunsOrIdle o s) (active : (getRec s p).state = .active) (i : Nat) (effect : EdgeEffect) :
    RunsOrIdle o (applyEdge p i effect s) := by
  have put : ∀ (results : List PointResult) (c : Context),
      RunsOrIdle o (Machine.putRec s p { getRec s p with results := results, context := some c }) := fun results c =>
    ⟨h.toRuns.putRec (sameMember_active active), h.idle⟩
  unfold Machine.applyEdge
  simp only
  split
  · next c => exact put (getRec s p).results c
  · next c result =>
    refine RunsOrIdle.membersChanged ?_
    refine (put ((getRec s p).results.set i result) { c with phase := .done }).of_table rfl rfl (fun q on => ?_) Iff.rfl
    simp only [State.setRun_run, PosSet.has_insert, Bool.or_eq_true, decide_eq_true_eq] at on
    rcases on with on | rfl
    · exact h.done q on
    · exact (h.members q).mpr active

theorem RunsOrIdle.edge (h : RunsOrIdle o s) (p : Pos) : RunsOrIdle o (deliverEdge p s) := by
  unfold deliverEdge
  simp only
  split
  · split
    · next member => exact h.applyEdge member.1 _ _
    · exact h
  · exact h

theorem RunsOrIdle.mapRecs {f : Pos → Record → Record} (h : RunsOrIdle o s) (each : ∀ p, SameMember (getRec s p) (f p (getRec s p))) :
    RunsOrIdle o (mapRecs f s) := ⟨h.toRuns.mapRecs each, h.idle⟩

theorem RunsOrIdle.referenceLost (h : RunsOrIdle o s) : RunsOrIdle o (referenceLost s) := by
  unfold Machine.referenceLost
  split
  · have lost : RunsOrIdle o (Machine.mapRecs (fun _ => loseGate) s) := h.mapRecs fun p => sameMember_loseGate _
    exact (lost.of_table (t := raiseFault refLostKind 0 (Machine.mapRecs (fun _ => loseGate) s)) rfl rfl lost.done Iff.rfl).ite lost
  · exact h

theorem RunsOrIdle.pointExpiry (h : RunsOrIdle o s) : RunsOrIdle o (pointExpiry s) := by
  unfold Machine.pointExpiry
  split
  · next i point _ _ _ =>
    refine RunsOrIdle.membersChanged ?_
    have stopped : RunsOrIdle o (s.setEngine { s.engine with timer := none }) := h.of_table rfl rfl h.done Iff.rfl
    have expired := stopped.mapRecs fun p => sameMember_finish i (expiryResult point.body s.front.present) (getRec s p)
    exact expired.of_table rfl rfl (fun _ => id) Iff.rfl
  · exact h

/-- What the run reads on its lines changes nothing its members must agree with. -/
theorem RunsOrIdle.setRun {r : Run} (h : RunsOrIdle o s) (state : r.state = .idle ↔ s.run.state = .idle := by rfl)
    (members : r.members = s.run.members := by rfl) (done : r.done = s.run.done := by rfl) : RunsOrIdle o (s.setRun r) :=
  h.of_table rfl members (fun p on => h.done p (done ▸ on)) state

theorem RunsOrIdle.part (h : RunsOrIdle o s) (part : RunPart s t) : RunsOrIdle o t := by
  cases part with
  | start => exact h.start
  | hold =>
    unfold holdRun
    split
    · exact h
    · split
      · exact h
      · next live => exact h.setRun (by simp [live])
      · next live => exact h.setRun (by simp [live])
      · exact h.setRun
      · exact h
      · exact h
  | resume =>
    unfold resumeRun
    split
    · exact h
    · split
      · next held =>
        have live := h.live (by rw [held]; nofun)
        have next : Live o (if s.run.measured then s.setRun (nextPoint s.run) else s) := by
          split
          · exact live.setRun live.live
          · exact live
        exact (next.toRuns.enterSourcing next.some (.inl next.live)).runsOrIdle
      · exact h
  | abort => exact h.ite h.toRuns.abortRun
  | exclude p => exact h.exclude p
  | edge p => exact h.edge p
  | referenceLost => exact h.referenceLost
  | pointExpiry => exact h.pointExpiry
  | latencyExpiry =>
    unfold latencyExpiry
    split
    · next due => exact (h.live (by rw [due.2]; nofun)).lookAtSource.runsOrIdle
    · exact h
  | sourceExpiry =>
    unfold sourceExpiry
    split
    · exact (h.faultAbort _).ite h
    · exact h
  | settleExpiry =>
    unfold settleExpiry
    split
    · next due => exact (h.live (by rw [due.2]; nofun)).settleOver.runsOrIdle
    · exact h
  | phaseLowEnd =>
    unfold phaseLowEnd
    split
    · have low : RunsOrIdle o (s.setRun { s.run with phaseLow := none }) := h.setRun
      simp only
      split
      · next settled => exact (low.live (by rw [settled.2.1]; nofun)).enterMeasuring.runsOrIdle
      · exact low
    · exact h
  | holdOffExpiry =>
    have expired : RunsOrIdle o (s.setRun { s.run with holdOff := none }) := h.setRun
    exact expired.membersChanged.ite h
  | guardExpiry =>
    unfold guardExpiry
    split
    · next due =>
      obtain ⟨cut, done⟩ := (h.live (by rw [due.2]; nofun)).cutMeasurement
      exact (cut.of_table (t := raiseFault cascadeCutKind 0 (cutMeasurement s)) rfl rfl cut.done cut.live).endPoint done
    · exact h
  | srcReadyRise =>
    have heard : RunsOrIdle o (s.setRun { s.run with srcReady := confirmed true }) := h.setRun
    unfold srcReadyRise
    simp only
    split
    · next ready => exact (heard.live (by rw [ready.2]; nofun)).enterSettling.runsOrIdle
    · exact heard
  | srcReadyFall =>
    have heard : RunsOrIdle o (s.setRun { s.run with srcReady := confirmed false }) := h.setRun
    unfold srcReadyFall
    simp only
    split
    · exact heard
    · split
      · next settling =>
        refine heard.setRun ?_
        rw [settling]
        exact ⟨nofun, nofun⟩
      · exact heard.faultAbort _
      · exact heard
  | phaseLineRise =>
    have heard : RunsOrIdle o (s.setRun { s.run with phaseLine := confirmed true }) := h.setRun
    unfold phaseLineRise
    simp only
    split
    · next follows => exact (heard.live (by rw [follows.2]; nofun)).enterMeasuring.runsOrIdle
    · exact heard
  | phaseLineFall =>
    have heard : RunsOrIdle o (s.setRun { s.run with phaseLine := confirmed false }) := h.setRun
    unfold phaseLineFall
    simp only
    split
    · next measures => exact (heard.live (by rw [measures.2]; nofun)).slavePointEnd
    · exact heard
  | doneLineRise =>
    have heard : RunsOrIdle o (s.setRun { s.run with doneLine := confirmed true }) := h.setRun
    exact heard.membersChanged.ite heard
  | lines => exact h.setRun

/-- A part of the run keeps the records, the run and the queue in agreement, and every meter and tag where it is. -/
theorem BenchOrder.runPart (h : BenchOrder s) (part : RunPart s t) : BenchOrder t ∧ Holds s t := by
  obtain ⟨members, idle, done⟩ := h.run
  have before : RunsOrIdle s s := ⟨⟨⟨h.records, fun p => .refl _, rfl⟩, members, done⟩, idle⟩
  have after := before.part part
  have closure : t.closure = s.closure := part.frame.2 .closure (by decide)
  exact ⟨
    { records := after.records
      run := ⟨after.members, after.idle, after.done⟩
      queue :=
        { once := closure ▸ h.queue.once
          closing := fun p => by rw [closure, (after.same p).2.2.2]; exact h.queue.closing p
          press := closure ▸ h.queue.press
          served := closure ▸ h.queue.served } }, after.toHolds⟩

theorem holdsTag_congr (same : SameHold r r') (n : Nat) : holdsTag r' n ↔ holdsTag r n := by
  obtain ⟨-, closure, spoiled, -⟩ := same
  rw [holdsTag, holdsTag, closure, spoiled]

theorem TagLaw.holds (h : TagLaw s) (holds : Holds s t) (closure : t.closure = s.closure) (stock : t.stock = s.stock) : TagLaw t :=
  h.of_fewer (fun p n on => (holdsTag_congr (holds.same p) n).mp on) (fun _ on => closure ▸ on) fun _ _ undrawn => stock ▸ undrawn

theorem IndexLaw.holds (h : IndexLaw s) (holds : Holds s t) : IndexLaw t :=
  h.congr holds.index fun p => by rw [serialAt, (holds.same p).1]; rfl

end Members

end Sys2Proof.Machine
end

section
/-! PROOF. What SET, the edits of the plan, the roll slots and the passing of time keep, and with it every step: the laws of the bench, the
index, the stock, the tags and the carriage (R3 to R9, R123 to R129, R142 to R158). -/

namespace Sys2Proof.Machine

section Parts
variable {s t : State}

/-! ## SET (R185) -/

/-- What an accepted SET does beside the new value. -/
inductive SetEffect (id : Nat) (old : Settings) (s : State) : State → Prop
  | plain (excitation : id = 0x20 → s.settings.excitation = old.excitation)
      (travel : id = 0x26 → s.settings.travel = old.travel ∨ s.closure.stepCount ≤ s.settings.travel)
      (load : id = 0x12 → ¬(s.run.state = .idle ∨ s.straps.role = .slave)) : SetEffect id old s s
  | load (at_id : id = 0x12) (rests : s.run.state = .idle ∨ s.straps.role = .slave) : SetEffect id old s (s.setRun { s.run with load := s.settings.restCode })
  | excitation (at_id : id = 0x20) : SetEffect id old s (s.setClosure { unhome s.closure with exIndex := 0 })
  | travel (at_id : id = 0x26) : SetEffect id old s (s.setClosure (unhome s.closure))
  | mask (at_id : id = 0x40) : SetEffect id old s (putAttn s s.attn)

theorem afterSet_effect (id : Nat) (old : Settings) (s : State) : SetEffect id old s (afterSet id old s) := by
  unfold afterSet
  split
  · next load =>
    split
    · next rests => exact .load load rests
    · next loaded => exact .plain (by simp [load]) (by simp [load]) fun _ => loaded
  · next no_load =>
    split
    · next excitation =>
      split
      · exact .excitation excitation
      · next same => exact .plain (fun _ => not_not.mp same) (by simp [excitation]) fun load => absurd load no_load
    · next other =>
      split
      · next travel =>
        split
        · exact .travel travel
        · next kept => exact .plain (by simp [travel]) (fun _ => by omega) fun load => absurd load no_load
      · next no_travel =>
        split
        · next mask => exact .mask mask
        · exact .plain (fun excitation => absurd excitation other) (fun travel => absurd travel no_travel)
            fun load => absurd load no_load

/-- SET changes nothing, or it writes one setting and does what that setting asks for. -/
theorem reqSet_cases (id : Byte) (value : BitVec 32) (s : State) : (reqSet id value s).1 = s ∨
    ∃ n, setAllowed id.toNat s = true ∧
      (isGeometry id.toNat = true → reachKept (writeSetting s.settings id.toNat n) s.closure.queue = true) ∧
      SetEffect id.toNat s.settings (s.setSettings (writeSetting s.settings id.toNat n)) (reqSet id value s).1 := by
  unfold reqSet
  simp only
  split
  · exact .inl rfl
  · split
    · exact .inl rfl
    · next allowed =>
      split
      · exact .inl rfl
      · next reach => exact .inr ⟨_, by simpa using allowed, fun geometry => by simpa [geometry] using reach, afterSet_effect _ _ _⟩

theorem geometryOpen_unit (open_ : geometryOpen s.closure = true) :
    s.closure.unit = .unhomed ∨ s.closure.unit = .fault ∨ s.closure.unit = .idle ∧ s.closure.queue = [] := by
  unfold geometryOpen at open_
  split at open_
  · next unit => exact .inl unit
  · next unit => exact .inr (.inl unit)
  · next unit => exact .inr (.inr ⟨unit, by simpa using open_⟩)
  · cases open_

theorem setAllowed_geometry {id : Nat} (allowed : setAllowed id s = true) (geometry : isGeometry id = true) :
    geometryOpen s.closure = true := by
  unfold setAllowed at allowed
  simp only [isGeometry, Bool.or_eq_true, beq_iff_eq] at geometry
  rw [if_neg (by omega), if_neg (by omega), if_pos (by simp only [isGeometry, Bool.or_eq_true, beq_iff_eq]; exact geometry)] at allowed
  exact allowed

theorem BenchOrder.unhomed (h : BenchOrder s) (open_ : geometryOpen s.closure = true) (ex : Nat) :
    BenchOrder (s.setClosure { unhome s.closure with exIndex := ex }) := by
  refine h.of_unit rfl rfl rfl (h.queue.press.trans ?_) nofun
  rcases geometryOpen_unit open_ with unit | unit | ⟨unit, -⟩ <;> rw [unit] <;> rfl

theorem BenchOrder.set (h : BenchOrder s) (id : Byte) (value : BitVec 32) : BenchOrder (reqSet id value s).1 := by
  rcases reqSet_cases id value s with same | ⟨n, allowed, -, set⟩
  · rwa [same]
  · have written : BenchOrder (s.setSettings (writeSetting s.settings id.toNat n)) := h.of_unit rfl rfl rfl h.queue.press h.queue.served
    generalize (reqSet id value s).1 = t at set
    cases set with
    | plain => exact written
    | load => exact ⟨h.records, h.run, h.queue.once, h.queue.closing, h.queue.press, h.queue.served⟩
    | excitation at_id => exact written.unhomed (setAllowed_geometry allowed (by simp [isGeometry, at_id])) 0
    | travel at_id => exact written.unhomed (setAllowed_geometry allowed (by simp [isGeometry, at_id])) s.closure.exIndex
    | mask => exact ⟨h.records, h.run, h.queue.once, h.queue.closing, h.queue.press, h.queue.served⟩

/-- SET leaves the queue and the tag in the press as they are. -/
theorem reqSet_queue (id : Byte) (value : BitVec 32) (s : State) : (reqSet id value s).1.closure.queue = s.closure.queue ∧
    (reqSet id value s).1.closure.tagInPress = s.closure.tagInPress := by
  rcases reqSet_cases id value s with same | ⟨n, -, -, set⟩
  · rw [same]
    exact ⟨rfl, rfl⟩
  · generalize (reqSet id value s).1 = t at set
    cases set with
    | plain | load | excitation | travel | mask => exact ⟨rfl, rfl⟩

theorem writeSetting_reach (v : Settings) {id : Nat} (n : Nat) (orient : id ≠ 0x01) (geometry : isGeometry id = false) :
    (writeSetting v id n).travel = v.travel ∧ ∀ p, pressLocation (writeSetting v id n) p = pressLocation v p := by
  unfold writeSetting
  split
  all_goals first
    | exact absurd rfl orient
    | exact absurd geometry (by decide)
    | exact ⟨rfl, fun _ => rfl⟩

theorem writeSetting_excitation (v : Settings) {id : Nat} (n : Nat) (other : id ≠ 0x20) :
    (writeSetting v id n).excitation = v.excitation := by
  unfold writeSetting
  split
  case h_8 => exact absurd rfl other
  all_goals rfl

theorem writeSetting_travel (v : Settings) {id : Nat} (n : Nat) (other : id ≠ 0x26) : (writeSetting v id n).travel = v.travel := by
  unfold writeSetting
  split
  case h_14 => exact absurd rfl other
  all_goals rfl

/-- Nothing of the closure unit is at work where the geometry can change. -/
theorem CarriageLaw.timers_of_open (h : CarriageLaw s) (open_ : geometryOpen s.closure = true) :
    s.closure.stepTimer = none ∧ s.closure.dwellTimer = none ∧ s.closure.pressTimer = none ∧ s.closure.press = false := by
  obtain ⟨-, -, -, press, step, dwell, pressTimer, -⟩ := h
  rcases geometryOpen_unit open_ with unit | unit | ⟨unit, -⟩
  all_goals
    rw [unit] at step dwell press pressTimer
    exact ⟨by simpa using step, by simpa using dwell, by simpa [UnitState.isPressing] using pressTimer, press⟩

theorem benchQuiet_queue (h : BenchOrder s) (quiet : benchQuiet s = true) : s.closure.queue = [] := by
  have vacant : ∀ p, (getRec s p).state = .vacant := by
    simp only [benchQuiet, Bool.and_eq_true, Bool.not_eq_true', ← Bool.not_eq_true, anyRec_iff] at quiet
    simpa using quiet.1
  rw [List.eq_nil_iff_forall_not_mem]
  intro p queued
  simpa [vacant p] using h.closing_of_mem queued

/-- A setting written where the laws of its owner allow it keeps every queued position within reach (R44, R158). -/
theorem CarriageLaw.reach_written {id n : Nat} (h : CarriageLaw s) (bench : BenchOrder s) (allowed : setAllowed id s = true)
    (kept : isGeometry id = true → reachKept (writeSetting s.settings id n) s.closure.queue = true) :
    ∀ p ∈ s.closure.queue, pressLocation (writeSetting s.settings id n) p ≤ (writeSetting s.settings id n).travel := by
  cases geometry : isGeometry id with
  | true => simpa [reachKept] using kept geometry
  | false =>
    by_cases orient : id = 0x01
    · have quiet : benchQuiet s = true := by simpa [setAllowed, orient] using allowed
      simp [benchQuiet_queue bench quiet]
    · obtain ⟨travel, location⟩ := writeSetting_reach s.settings n orient geometry
      intro p queued
      rw [travel, location]
      exact h.1 p queued

/-- The carriage unhomed by a change of the geometry (R158). -/
theorem CarriageLaw.unhomed {v : Settings} {ex : Nat} (h : CarriageLaw s) (open_ : geometryOpen s.closure = true)
    (reach : ∀ p ∈ s.closure.queue, pressLocation v p ≤ v.travel) (inside : ex < if v.excitation = .full then 4 else 8) :
    CarriageLaw ((s.setSettings v).setClosure { unhome s.closure with exIndex := ex }) := by
  obtain ⟨noStep, noDwell, noPress, released⟩ := h.timers_of_open open_
  refine ⟨reach, trivial, rfl, released, fun on => ?_, fun on => ?_, fun on => ?_, inside⟩
  · exact absurd (noStep ▸ on) (by simp)
  · exact absurd (noDwell ▸ on) (by simp)
  · exact absurd (noPress ▸ on) (by simp)

/-- The step count lies within the travel written, where the unit stays as it is. -/
theorem CarriageLaw.written {id n : Nat} (h : CarriageLaw s) (bench : BenchOrder s) (allowed : setAllowed id s = true)
    (kept : isGeometry id = true → reachKept (writeSetting s.settings id n) s.closure.queue = true)
    (excitation : id = 0x20 → (writeSetting s.settings id n).excitation = s.settings.excitation)
    (travel : id = 0x26 → (writeSetting s.settings id n).travel = s.settings.travel ∨
      s.closure.stepCount ≤ (writeSetting s.settings id n).travel) : CarriageLaw (s.setSettings (writeSetting s.settings id n)) := by
  have whole := h
  obtain ⟨-, place, energised, press, step, dwell, pressTimer, ex⟩ := h
  have same_excitation : (writeSetting s.settings id n).excitation = s.settings.excitation := by
    by_cases at_id : id = 0x20
    · exact excitation at_id
    · exact writeSetting_excitation s.settings n at_id
  refine ⟨whole.reach_written bench allowed kept, ?_, energised, press, step, dwell, pressTimer, by
    rwa [State.setSettings_settings, same_excitation]⟩
  by_cases at_id : id = 0x26
  · rcases travel at_id with same | inside
    · change match s.closure.unit with | .idle => _ | .moving m => _ | .pressing target => _ | _ => True
      rw [State.setSettings_settings, same]
      exact place
    · have open_ := setAllowed_geometry allowed (by simp [isGeometry, at_id])
      change match s.closure.unit with | .idle => _ | .moving m => _ | .pressing target => _ | _ => True
      rcases geometryOpen_unit open_ with unit | unit | ⟨unit, -⟩ <;> rw [unit]
      · trivial
      · trivial
      · exact inside
  · rw [State.setSettings_settings, writeSetting_travel s.settings n at_id]
    exact place

theorem CarriageLaw.set (h : CarriageLaw s) (bench : BenchOrder s) (id : Byte) (value : BitVec 32) : CarriageLaw (reqSet id value s).1 := by
  rcases reqSet_cases id value s with same | ⟨n, allowed, kept, set⟩
  · rwa [same]
  · have reach := h.reach_written bench allowed kept
    generalize (reqSet id value s).1 = t at set
    cases set with
    | plain excitation travel _ => exact h.written bench allowed kept excitation travel
    | load at_id => exact h.written bench allowed kept (by simp [at_id]) (by simp [at_id])
    | excitation at_id =>
      exact h.unhomed (setAllowed_geometry allowed (by simp [isGeometry, at_id])) reach (by split <;> decide)
    | travel at_id =>
      refine h.unhomed (setAllowed_geometry allowed (by simp [isGeometry, at_id])) reach ?_
      rw [writeSetting_excitation s.settings n (by simp [at_id])]
      obtain ⟨-, -, -, -, -, -, -, ex⟩ := h
      exact ex
    | mask at_id => exact h.written bench allowed kept (by simp [at_id]) (by simp [at_id])

/-! ## The plan and the roll slots (R33, R126, R127) -/

theorem sameMember_emptied (r : Record) : SameMember r (if r.state = .mounted ∨ r.state = .ready then { r with results := [] } else r) := by
  split
  · refine ⟨fun law => ?_, rfl, rfl, rfl, rfl, Iff.rfl⟩
    obtain ⟨identity, context, closure, spoiled, -⟩ := law
    exact ⟨identity, context, closure, spoiled, fun _ => rfl⟩
  · exact .refl r

theorem getRec_editPlan (points : List Point) (p : Pos) : SameMember (getRec s p) (getRec (editPlan points s) p) := by
  rw [editPlan, getRec_mapRecs]
  exact sameMember_emptied _

theorem BenchOrder.editPlan (h : BenchOrder s) (points : List Point) : BenchOrder (editPlan points s) where
  records p := (getRec_editPlan points p).1 (h.records p)
  run := h.run.congr rfl fun p => by rw [(getRec_editPlan points p).2.1]
  queue :=
    { once := h.queue.once
      closing := fun p => by rw [(getRec_editPlan points p).2.1]; exact h.queue.closing p
      press := h.queue.press
      served := h.queue.served }

theorem holds_editPlan (h : BenchOrder s) (points : List Point) : Holds s (editPlan points s) :=
  ⟨(h.editPlan points).records, fun p => (getRec_editPlan points p).2.2, rfl⟩

/-- What ROLL_LOAD does when it is accepted. -/
theorem reqRollLoad_cases (slot : Byte) (first last : BitVec 32) (s : State) : (reqRollLoad slot first last s).1 = s ∨
    ∃ i, 1 ≤ first.toNat ∧ first.toNat ≤ last.toNat ∧ last.toNat ≤ Config.tagMax ∧ isLoaded (s.stock.get i) = false ∧
      s.stock.any (undrawnMeets first.toNat last.toNat) = false ∧ someHeld s first.toNat last.toNat = false ∧
      (reqRollLoad slot first last s).1 = s.setStock (s.stock.set i (.loaded first.toNat last.toNat first.toNat)) := by
  unfold reqRollLoad
  simp only
  split
  · exact .inl rfl
  · next i _ =>
    split
    · exact .inl rfl
    · next range =>
      split
      · exact .inl rfl
      · next free =>
        split
        · exact .inl rfl
        · next apart =>
          split
          · exact .inl rfl
          · next unheld =>
            push Not at range
            obtain ⟨one, max, rising⟩ := range
            exact .inr ⟨i, Nat.one_le_iff_ne_zero.mpr one, rising, max, by simpa using free, by simpa using apart,
              by simpa using unheld, rfl⟩

/-- What ROLL_DROP does to the stock when it is accepted. -/
theorem reqRollDrop_cases (slot : Byte) (s : State) : (reqRollDrop slot s).1 = s ∨
    ∃ i, (reqRollDrop slot s).1.stock = s.stock.set i .empty ∧
      (undrawn (s.stock.get i) = 0 ∨ reservations s.closure ≤ remaining s.stock - undrawn (s.stock.get i)) := by
  unfold reqRollDrop
  simp only
  split
  · exact .inl rfl
  · next i _ =>
    split
    · exact .inl rfl
    · next exhausted => exact .inr ⟨i, rfl, .inl (by rw [exhausted]; rfl)⟩
    · next first last next loaded =>
      split
      · exact .inl rfl
      · next served =>
        refine .inr ⟨i, (noteStockFall_frame _ _).2 .stock (by decide), .inr ?_⟩
        rw [loaded]
        exact Nat.le_of_not_lt served

theorem StockLaw.rollLoad (h : StockLaw s) (slot : Byte) (first last : BitVec 32) : StockLaw (reqRollLoad slot first last s).1 := by
  rcases reqRollLoad_cases slot first last s with same | ⟨i, one, rising, max, free, -, -, loaded⟩
  · rwa [same]
  · rw [loaded]
    have more := remaining_set_add s.stock i (.loaded first.toNat last.toNat first.toNat)
    have none : undrawn (s.stock.get i) = 0 := by
      cases stored : s.stock.get i with
      | loaded => simp [isLoaded, stored] at free
      | empty | exhausted => rfl
    refine ⟨h.set ⟨one, le_rfl, rising, max⟩, h.2.trans ?_⟩
    simp only [State.setStock_stock]
    omega

theorem undrawnIn_meets {n lo hi : Nat} {slot : RollSlot} (low : lo ≤ n) (high : n ≤ hi) (undrawn : undrawnIn n slot) :
    undrawnMeets lo hi slot = true := by
  cases slot with
  | loaded first last next =>
    obtain ⟨from_next, to_last⟩ := undrawn
    simp only [undrawnMeets, Bool.and_eq_true, decide_eq_true_eq]
    omega
  | empty | exhausted => exact undrawn.elim

theorem isHeld_someHeld {n lo hi : Nat} (low : lo ≤ n) (high : n ≤ hi) (held : isHeld s n) : someHeld s lo hi = true := by
  have inside : within lo hi n = true := (within_iff lo hi n).mpr ⟨low, high⟩
  rw [someHeld, Bool.or_eq_true, anyRec_iff]
  rcases held with ⟨p, ⟨tag, closed, rfl⟩ | spoiled⟩ | pressed
  · exact .inl ⟨p, by simp [recordHolds, closed, inside]⟩
  · exact .inl ⟨p, by simp [recordHolds, spoiled, inside]⟩
  · exact .inr (by simp [pressed, inside])

theorem TagLaw.rollLoad (h : TagLaw s) (slot : Byte) (first last : BitVec 32) : TagLaw (reqRollLoad slot first last s).1 := by
  rcases reqRollLoad_cases slot first last s with same | ⟨i, -, -, -, -, apart, unheld, loaded⟩
  · rwa [same]
  · rw [loaded]
    obtain ⟨single, inPress, drawn, undrawn_once⟩ := h
    have new : ∀ n j, undrawnIn n ((s.stock.set i (.loaded first.toNat last.toNat first.toNat)).get j) →
        j = i ∧ (∀ k, ¬undrawnIn n (s.stock.get k)) ∧ ¬isHeld s n ∨ j ≠ i ∧ undrawnIn n (s.stock.get j) := fun n j undrawn => by
      rw [Tbl.get_set] at undrawn
      split at undrawn
      · next at_i =>
        obtain ⟨low, high⟩ := undrawn
        refine .inl ⟨at_i, fun k undrawn => ?_, fun held => ?_⟩
        · rw [← Bool.not_eq_true, Tbl.any_iff] at apart
          exact apart ⟨k, undrawnIn_meets low high undrawn⟩
        · simp [isHeld_someHeld low high held] at unheld
      · next other => exact .inr ⟨other, undrawn⟩
    refine ⟨single, inPress, fun n j held undrawn => ?_, fun n j k at_j at_k => ?_⟩
    · rcases new n j undrawn with ⟨-, -, fresh⟩ | ⟨-, undrawn⟩
      · exact fresh held
      · exact drawn n j held undrawn
    · rcases new n j at_j with ⟨rfl, nowhere, -⟩ | ⟨-, old_j⟩
      · rcases new n k at_k with ⟨rfl, -, -⟩ | ⟨-, old_k⟩
        · rfl
        · exact absurd old_k (nowhere k)
      · rcases new n k at_k with ⟨rfl, nowhere, -⟩ | ⟨-, old_k⟩
        · exact absurd old_j (nowhere j)
        · exact undrawn_once n j k old_j old_k

theorem StockLaw.rollDrop (h : StockLaw s) (slot : Byte) : StockLaw (reqRollDrop slot s).1 := by
  have closure : (reqRollDrop slot s).1.closure = s.closure := (reqRollDrop_frame s slot).2 .closure (by decide)
  rcases reqRollDrop_cases slot s with same | ⟨i, dropped, served⟩
  · rwa [same]
  · have left := remaining_set_add s.stock i .empty
    have before := h.2
    have none : undrawn .empty = 0 := rfl
    refine ⟨fun j => dropped ▸ h.set (slot := .empty) trivial j, ?_⟩
    rw [closure, dropped]
    omega

theorem TagLaw.rollDrop (h : TagLaw s) (slot : Byte) : TagLaw (reqRollDrop slot s).1 := by
  have frame := reqRollDrop_frame s slot
  have table : (reqRollDrop slot s).1.table = s.table := frame.2 .table (by decide)
  have closure : (reqRollDrop slot s).1.closure = s.closure := frame.2 .closure (by decide)
  rcases reqRollDrop_cases slot s with same | ⟨i, dropped, -⟩
  · rwa [same]
  · refine h.of_fewer (fun p n on => by rwa [getRec_congr table] at on) (fun n on => closure ▸ on) fun n j undrawn => ?_
    rw [dropped, Tbl.get_set] at undrawn
    split at undrawn
    · exact undrawn.elim
    · exact undrawn

/-! ## Time (R1) -/

@[simp] theorem tickTimer_isSome (t : Option Timer) : (tickTimer t).isSome = t.isSome := by cases t <;> rfl

theorem CarriageLaw.tick (h : CarriageLaw s) : CarriageLaw (tickTimers s) := by
  obtain ⟨reach, place, energised, press, step, dwell, pressTimer, ex⟩ := h
  refine ⟨reach, place, energised, press, fun on => step ?_, fun on => dwell ?_, fun on => pressTimer ?_, ex⟩
  all_goals exact (tickTimer_isSome _).symm.trans on

/-! ## Every change -/

theorem BenchOrder.parts_of_unit (h : BenchOrder s) (frame : t.table = s.table ∧ t.run = s.run ∧ t.closure = s.closure) : BenchOrder t := by
  obtain ⟨table, run, closure⟩ := frame
  exact h.of_unit table run (by rw [closure]) (by rw [closure]; exact h.queue.press) (by rw [closure]; exact h.queue.served)

theorem BenchOrder.change (h : BenchOrder s) (change : Change s t) : BenchOrder t := by
  cases change with
  | link l => exact h.parts_of_unit ⟨rfl, rfl, rfl⟩
  | part part =>
    cases part with
    | cursor | front | panel | attend => exact h.parts_of_unit ⟨rfl, rfl, rfl⟩
    | set id value => exact h.set id value
    | plan points => exact h.editPlan points
    | rollLoad slot first last =>
      have frame := reqRollLoad_frame s slot first last
      exact h.parts_of_unit ⟨frame.2 .table (by decide), frame.2 .run (by decide), frame.2 .closure (by decide)⟩
    | rollDrop slot =>
      have frame := reqRollDrop_frame s slot
      exact h.parts_of_unit ⟨frame.2 .table (by decide), frame.2 .run (by decide), frame.2 .closure (by decide)⟩
    | record part => exact h.recordAct part.act
    | run part => exact (h.runPart part).1
    | unit part => exact part.acts.keep (fun act h => h.act act) h
    | tickTimers => exact ⟨h.records, h.run, h.queue.once, h.queue.closing, h.queue.press, h.queue.served⟩

theorem IndexLaw.of_same_table (h : IndexLaw s) (table : t.table = s.table) : IndexLaw t := by
  simpa only [IndexLaw, getRec, table] using h

theorem IndexLaw.change (h : IndexLaw s) (bench : BenchOrder s) (change : Change s t) : IndexLaw t := by
  cases change with
  | link l => exact h
  | part part =>
    cases part with
    | cursor | front | panel | attend | tickTimers => exact h
    | set id value => exact h.of_same_table ((reqSet_frame s id value).2 .table (by decide))
    | plan points => exact h.holds (holds_editPlan bench points)
    | rollLoad slot first last => exact h.of_same_table ((reqRollLoad_frame s slot first last).2 .table (by decide))
    | rollDrop slot => exact h.of_same_table ((reqRollDrop_frame s slot).2 .table (by decide))
    | record part => exact h.recordAct bench part.act
    | run part => exact h.holds (bench.runPart part).2
    | unit part => exact part.acts.keep (fun act h => h.act act) h

theorem StockLaw.change (h : StockLaw s) (bench : BenchOrder s) (change : Change s t) : StockLaw t := by
  have framed : ∀ {bs : List Block}, OnlyChanges bs s t → Block.stock ∉ bs → Block.closure ∉ bs → StockLaw t :=
    fun frame stock closure => h.of_unit (frame.2 .stock stock) (le_of_eq (congrArg reservations (frame.2 .closure closure)))
  cases change with
  | link l => exact h
  | part part =>
    cases part with
    | cursor | front | panel | attend | tickTimers => exact h
    | set id value =>
      obtain ⟨queue, press⟩ := reqSet_queue id value s
      exact h.of_unit ((reqSet_frame s id value).2 .stock (by decide)) (by rw [reservations, reservations, queue, press])
    | plan points => exact framed (editPlan_frame s points) (by decide) (by decide)
    | rollLoad slot first last => exact h.rollLoad slot first last
    | rollDrop slot => exact h.rollDrop slot
    | record part => exact framed part.frame (by decide) (by decide)
    | run part => exact framed part.frame (by decide) (by decide)
    | unit part => exact (part.acts.keep (law := fun u => BenchOrder u ∧ StockLaw u) (fun act h => ⟨h.1.act act, h.2.act h.1 act⟩) ⟨bench, h⟩).2

theorem TagLaw.change (h : TagLaw s) (bench : BenchOrder s) (stock : StockLaw s) (change : Change s t) : TagLaw t := by
  have framed : ∀ {bs : List Block}, OnlyChanges bs s t → Block.table ∉ bs → Block.stock ∉ bs → Block.closure ∉ bs → TagLaw t :=
    fun frame table stock closure =>
      h.of_unit (frame.2 .table table) (congrArg Closure.tagInPress (frame.2 .closure closure)) (frame.2 .stock stock)
  cases change with
  | link l => exact h
  | part part =>
    cases part with
    | cursor | front | panel | attend | tickTimers => exact h
    | set id value =>
      have frame := reqSet_frame s id value
      exact h.of_unit (frame.2 .table (by decide)) (reqSet_queue id value s).2 (frame.2 .stock (by decide))
    | plan points => exact h.holds (holds_editPlan bench points) rfl rfl
    | rollLoad slot first last => exact h.rollLoad slot first last
    | rollDrop slot => exact h.rollDrop slot
    | record part => exact h.recordAct part.act
    | run part => exact h.holds (bench.runPart part).2 (part.frame.2 .closure (by decide)) (part.frame.2 .stock (by decide))
    | unit part =>
      exact (part.acts.keep (law := fun u => BenchOrder u ∧ StockLaw u ∧ TagLaw u)
        (fun act ⟨bench, stock, h⟩ => ⟨bench.act act, stock.act bench act, h.act stock bench act⟩) ⟨bench, stock, h⟩).2.2

theorem CarriageLaw.change (h : CarriageLaw s) (bench : BenchOrder s) (change : Change s t) : CarriageLaw t := by
  have framed : ∀ {bs : List Block}, OnlyChanges bs s t → Block.settings ∉ bs → Block.closure ∉ bs → CarriageLaw t :=
    fun frame settings closure => by
      have same_closure : t.closure = s.closure := frame.2 .closure closure
      exact h.of_queue (frame.2 .settings settings) (same_closure ▸ h.1) ⟨_, _, _, same_closure⟩
  cases change with
  | link l => exact h
  | part part =>
    cases part with
    | cursor | front | panel | attend => exact h
    | set id value => exact h.set bench id value
    | plan points => exact framed (editPlan_frame s points) (by decide) (by decide)
    | rollLoad slot first last => exact framed (reqRollLoad_frame s slot first last) (by decide) (by decide)
    | rollDrop slot => exact framed (reqRollDrop_frame s slot) (by decide) (by decide)
    | record part => exact framed part.frame (by decide) (by decide)
    | run part => exact framed part.frame (by decide) (by decide)
    | unit part => exact part.acts.keep (fun act h => h.act act) h
    | tickTimers => exact h.tick

/-! ## An entry that waits in IDLE (R139; log 29) -/

theorem IdleLaw.congr (h : IdleLaw s) (closure : t.closure = s.closure) (pending : t.pending = s.pending)
    (calm : t.link.receiver = .responding → s.link.receiver = .responding) : IdleLaw t := by
  intro idle
  rw [closure] at idle
  refine (h idle).imp (fun empty => closure ▸ empty) ?_
  rintro ⟨p, rest, b, more, queue, waits, at_p, take⟩
  exact ⟨p, rest, b, more, closure ▸ queue, pending ▸ waits, at_p, mt calm take⟩

theorem idleLaw_serve (s : State) : IdleLaw (serve s) := fun idle => by
  obtain ⟨-, law, same⟩ := serve_unit_idle s idle
  rwa [same]

theorem idleLaw_of_unit (h : s.closure.unit ≠ .idle) : IdleLaw s := fun idle => absurd idle h

theorem IdleLaw.ite {c : Prop} [Decidable c] {u : State} (h : IdleLaw t) (k : IdleLaw u) : IdleLaw (if c then t else u) := by
  split
  · exact h
  · exact k

theorem idleLaw_enterHoming (s : State) : IdleLaw (enterHoming s) :=
  IdleLaw.ite (idleLaw_serve _) (idleLaw_of_unit nofun)

theorem IdleLaw.set (h : IdleLaw s) (id : Byte) (value : BitVec 32) : IdleLaw (reqSet id value s).1 := by
  rcases reqSet_cases id value s with same | ⟨n, -, -, set⟩
  · rwa [same]
  · generalize (reqSet id value s).1 = t at set
    cases set with
    | plain | load | mask => exact h
    | excitation | travel => exact idleLaw_of_unit nofun

theorem IdleLaw.unitPart (h : IdleLaw s) (part : UnitPart s t) : IdleLaw t := by
  cases part with
  | close p =>
    unfold closePosition
    split
    · exact h
    · exact idleLaw_serve _
  | closeCancel p =>
    unfold closeCancelAt
    split
    · exact h
    · split
      · exact h
      · exact idleLaw_serve _
  | carriageHome =>
    unfold reqCarriageHome
    split
    · exact idleLaw_enterHoming s
    · exact idleLaw_enterHoming s
    all_goals exact h
  | closureClear =>
    unfold reqClosureClear
    split
    · exact idleLaw_enterHoming s
    · exact h
  | stepExpiry =>
    unfold stepExpiry
    split
    · next homing => exact IdleLaw.ite (idleLaw_of_unit (by rw [homingStep, State.setClosure_closure, homing]; nofun)) (idleLaw_of_unit nofun)
    · split
      · exact IdleLaw.ite (idleLaw_of_unit (arrive_unit_ne_idle s _)) (idleLaw_of_unit nofun)
      · exact h
    · exact h
  | dwellExpiry =>
    unfold dwellExpiry
    split
    · next m _ moving =>
      split
      · exact idleLaw_of_unit (dwellOver_unit_ne_idle _ _ (by rw [State.setClosure_closure, moving]; nofun))
      · exact h
    · exact h
  | pressExpiry =>
    unfold pressExpiry
    split
    · exact idleLaw_of_unit nofun
    · exact h
  | homeRise => exact IdleLaw.ite (idleLaw_serve _) h
  | pressDoneRise =>
    unfold pressDoneRise
    simp only
    split
    · unfold completePress
      split
      · exact idleLaw_serve _
      · exact h
    · exact h
  | lines => exact h

theorem IdleLaw.change (h : IdleLaw s) (change : Change s t) : IdleLaw t := by
  have framed : ∀ {bs : List Block}, OnlyChanges bs s t → Block.link ∉ bs → Block.closure ∉ bs → IdleLaw t :=
    fun frame link closure => by
      have same_link : t.link = s.link := frame.2 .link link
      exact h.congr (frame.2 .closure closure) frame.1 (by rw [same_link]; exact id)
  cases change with
  | link l _ calm => exact h.congr rfl rfl calm
  | part part =>
    cases part with
    | cursor | front | panel | attend | tickTimers => exact h
    | set id value => exact h.set id value
    | plan points => exact framed (editPlan_frame s points) (by decide) (by decide)
    | rollLoad slot first last => exact framed (reqRollLoad_frame s slot first last) (by decide) (by decide)
    | rollDrop slot => exact framed (reqRollDrop_frame s slot) (by decide) (by decide)
    | record part => exact framed part.frame (by decide) (by decide)
    | run part => exact framed part.frame (by decide) (by decide)
    | unit part => exact h.unitPart part

end Parts

/-! ## Every step -/

section Steps
variable {s t : State}

theorem benchOrder_fullReset (straps : Straps) (s : State) : BenchOrder (fullReset straps s) := by
  rw [fullReset_eq_atReset]
  exact (benchLaw_iff.mp (benchLaw_atReset ..)).1

theorem IdleLaw.fullReset (straps : Straps) (s : State) : IdleLaw (fullReset straps s) := by
  rw [fullReset_eq_atReset]
  exact (benchLaw_iff.mp (benchLaw_atReset ..)).2

theorem BenchOrder.speak (h : BenchOrder s) : BenchOrder (quietExpiry s) := by
  have frame := quietExpiry_frame s
  exact h.parts_of_unit ⟨frame.2 .table (by decide), frame.2 .run (by decide), frame.2 .closure (by decide)⟩

theorem BenchOrder.step (h : BenchOrder s) (next : step s = .next t) : BenchOrder t :=
  step_keeps (fun _ h => ⟨h.records, h.run, h.queue.once, h.queue.closing, h.queue.press, h.queue.served⟩) benchOrder_fullReset
    (fun _ => BenchOrder.speak) (fun change h => h.change change) h next

/-- A CLOSE_CANCEL that comes together with the beginning of service takes the entry out, and the next one is served (R139; log 29). -/
theorem idleLaw_closeCancel {b : Byte} {p : Pos} (take : CanTake s) (at_p : b.toNat = p.val) (idle : s.closure.unit = .idle)
    (queued : p ∈ s.closure.queue) (next : exec (.closeCancel .addressed b) s = .next t) : IdleLaw t := by
  have served : ∃ u, (closeCancelAt p (s.setLink (takenLink s.link))) = answer .ok (serve u) := by
    unfold closeCancelAt
    rw [if_neg (by simp [serving, idle]), if_neg (by simpa using queued)]
    exact ⟨_, rfl⟩
  obtain ⟨u, served⟩ := served
  have done : request .addressed 0x54 (reqCloseCancel b) s = respond (answer .ok (serve u)) := by
    unfold request
    rw [if_neg take]
    simp only [reqCloseCancel, atPosition, posOfByte_eq_some at_p, served]
  have at_t : t = respond (answer .ok (serve u)) := by
    rw [← done]
    exact (Host.Outcome.next.inj next).symm
  rw [at_t]
  exact (idleLaw_serve u).congr rfl rfl id

/-- A command that finds no entry waiting in IDLE leaves none but one whose CLOSE_CANCEL comes next. -/
theorem idleLaw_exec {c : Instr} (strict : s.closure.unit = .idle → s.closure.queue = []) (next : exec c s = .next t) : IdleLaw t := by
  rcases exec_next next with ⟨straps, rfl⟩ | rfl | changes
  · exact .fullReset straps s
  · have closure : (quietExpiry s).closure = s.closure := (quietExpiry_frame s).2 .closure (by decide)
    exact fun idle => .inl (closure ▸ strict (closure ▸ idle))
  · exact changes.keep (fun change h => h.change change) fun idle => .inl (strict idle)

theorem IdleLaw.step (h : IdleLaw s) (next : step s = .next t) : IdleLaw t := by
  cases waits : s.pending with
  | nil =>
    rw [step_nil waits] at next
    cases next
    exact h
  | cons c rest =>
    rw [step_cons waits] at next
    by_cases strict : s.closure.unit = .idle → s.closure.queue = []
    · exact idleLaw_exec (s := { s with pending := rest }) strict next
    · push Not at strict
      obtain ⟨idle, some⟩ := strict
      obtain ⟨p, others, b, more, queue, first, at_p, take⟩ := (h idle).resolve_left some
      rw [waits] at first
      cases first
      exact idleLaw_closeCancel (s := { s with pending := rest }) take at_p idle (by rw [queue]; simp) next

/-- Settles O54: every act keeps the records, the run and the queue, and every beginning of service the entry in IDLE. -/
theorem everyStepKeepsTheBenchInAgreement : Obligations.EveryStepKeepsTheBenchInAgreement := fun s t law next => by
  obtain ⟨bench, idle⟩ := benchLaw_iff.mp law
  exact benchLaw_iff.mpr ⟨bench.step next, idle.step next⟩

/-- The packaged induction with what the bench keeps. -/
theorem step_keeps_with_bench {law : State → Prop} (pop : ∀ u rest, law u → law { u with pending := rest })
    (reset : ∀ straps u, law (fullReset straps u)) (speak : ∀ u, law u → law (quietExpiry u))
    (each : ∀ {u v}, Change u v → BenchOrder u → law u → law v) (bench : BenchLaw s) (h : law s) (next : step s = .next t) : law t :=
  (step_keeps (law := fun u => BenchOrder u ∧ law u)
    (fun rest ⟨b, h⟩ => ⟨⟨b.records, b.run, b.queue.once, b.queue.closing, b.queue.press, b.queue.served⟩, pop _ rest h⟩)
    (fun straps u => ⟨benchOrder_fullReset straps u, reset straps u⟩) (fun u ⟨b, h⟩ => ⟨b.speak, speak u h⟩)
    (fun change ⟨b, h⟩ => ⟨b.change change, each change b h⟩) ⟨(benchLaw_iff.mp bench).1, h⟩ next).2

/-- Settles O55. -/
theorem everyStepKeepsSerialsUniqueAndIndexed : Obligations.EveryStepKeepsSerialsUniqueAndIndexed := fun s t bench law next => by
  refine step_keeps_with_bench (fun _ _ => id) (fun straps u => ?_) (fun u h => ?_) (fun change bench h => h.change bench change)
    bench law next
  · rw [fullReset_eq_atReset]
    exact indexLaw_atReset ..
  · exact h.of_same_table ((quietExpiry_frame u).2 .table (by decide))

theorem StockLaw.speak (h : StockLaw s) : StockLaw (quietExpiry s) :=
  h.of_unit ((quietExpiry_frame s).2 .stock (by decide)) (le_of_eq (congrArg reservations ((quietExpiry_frame s).2 .closure (by decide))))

theorem stockLaw_fullReset (straps : Straps) (s : State) : StockLaw (fullReset straps s) := by
  rw [fullReset_eq_atReset]
  exact stockLaw_atReset ..

/-- Settles O56. -/
theorem everyStepKeepsATagForEveryReservation : Obligations.EveryStepKeepsATagForEveryReservation := fun _ _ bench law next =>
  step_keeps_with_bench (fun _ _ => id) stockLaw_fullReset (fun _ h => h.speak) (fun change bench h => h.change bench change) bench law next

/-- Settles O57. -/
theorem everyStepKeepsTagNumbersSingle : Obligations.EveryStepKeepsTagNumbersSingle := fun s t bench stock law next => by
  refine (step_keeps_with_bench (law := fun u => StockLaw u ∧ TagLaw u) (fun _ _ => id) (fun straps u => ⟨stockLaw_fullReset straps u, ?_⟩)
    (fun u ⟨stock, h⟩ => ⟨stock.speak, ?_⟩) (fun change bench ⟨stock, h⟩ => ⟨stock.change bench change, h.change bench stock change⟩)
    bench ⟨stock, law⟩ next).2
  · rw [fullReset_eq_atReset]
    exact tagLaw_atReset ..
  · have frame := quietExpiry_frame u
    exact h.of_unit (frame.2 .table (by decide)) (congrArg Closure.tagInPress (frame.2 .closure (by decide))) (frame.2 .stock (by decide))

/-- Settles O58. -/
theorem everyStepKeepsTheCarriageWithinTravel : Obligations.EveryStepKeepsTheCarriageWithinTravel := fun s t bench law next => by
  refine step_keeps_with_bench (fun _ _ => id) (fun straps u => ?_) (fun u h => ?_) (fun change bench h => h.change bench change)
    bench law next
  · rw [fullReset_eq_atReset]
    exact carriageLaw_atReset ..
  · have same_closure : (quietExpiry u).closure = u.closure := (quietExpiry_frame u).2 .closure (by decide)
    exact h.of_queue ((quietExpiry_frame u).2 .settings (by decide)) (same_closure ▸ h.1) ⟨_, _, _, same_closure⟩

end Steps

end Sys2Proof.Machine
end

section
/-! PROOF. The cascade lines, the run's timers, the engine, the point index and the LOAD code follow the run state and the role (R28, R60,
R87 to R118): what every operation of the run keeps. -/

namespace Sys2Proof.Machine

/-! ## The laws of the run, field by field -/

/-- `CascadeLaw` and `MeasurementLaw` but for the DONE drive, which alone reads the members. -/
structure RunOrder (s : State) : Prop where
  slave : s.straps.role = .slave → s.run.state = .idle ∨ s.run.state = .following ∨ s.run.state = .measuring
  others : s.straps.role ≠ .slave → s.run.state ≠ .following
  phase : s.run.phaseHigh = decide (s.straps.role = .master ∧ s.run.state = .measuring)
  guards : s.run.guard.isSome = true ∨ s.run.holdOff.isSome = true → s.straps.role = .master ∧ s.run.state = .measuring
  latency : s.run.latency.isSome = true → s.run.state = .sourcing .latency
  source : s.run.source.isSome = true → ∃ stage, s.run.state = .sourcing stage
  settle : s.run.settle.isSome = true → s.run.state = .settling
  engine : s.engine.point = if s.run.state = .measuring then some s.run.index else none
  timer : s.engine.timer.isSome = true → s.engine.point.isSome = true
  index : s.run.state ≠ .idle → s.run.index < s.plan.length
  held : s.run.state = .held → s.run.measured = true → s.run.index + 1 < s.plan.length
  length : s.plan.length ≤ Config.planPlaces
  rest : s.run.state = .idle ∨ s.straps.role = .slave → s.run.load = s.settings.restCode
  load : s.straps.role ≠ .slave → s.run.state ≠ .idle → s.run.state ≠ .held →
    ∀ point, s.plan[s.run.index]? = some point → s.run.load = point.load

/-- The DONE drive of a SLAVE (R117). -/
def DoneDrive (s : State) : Prop :=
  s.run.doneLow = decide (s.straps.role = .slave ∧ s.run.state = .measuring ∧ s.run.done ≠ s.run.members)

/-- Both laws of the run. -/
structure RunInOrder (s : State) : Prop extends RunOrder s where
  drive : DoneDrive s

theorem runInOrder_iff {s : State} : RunInOrder s ↔ CascadeLaw s ∧ MeasurementLaw s := by
  constructor
  · rintro ⟨⟨slave, others, phase, guards, latency, source, settle, engine, timer, index, held, length, rest, load⟩, drive⟩
    exact ⟨⟨slave, others, phase, drive, guards, latency, source, settle⟩, engine, timer, index, held, length, rest, load⟩
  · rintro ⟨⟨slave, others, phase, drive, guards, latency, source, settle⟩, engine, timer, index, held, length, rest, load⟩
    exact ⟨⟨slave, others, phase, guards, latency, source, settle, engine, timer, index, held, length, rest, load⟩, drive⟩

/-- Nothing is measured and no line driven, and the point index lies in the plan: where the run can enter a point, or wait. -/
structure Parked (s : State) : Prop where
  phase : s.run.phaseHigh = false
  drive : s.run.doneLow = false
  guard : s.run.guard = none
  holdOff : s.run.holdOff = none
  engine : s.engine = ⟨none, none⟩
  index : s.run.index < s.plan.length
  length : s.plan.length ≤ Config.planPlaces
  rest : s.straps.role = .slave → s.run.load = s.settings.restCode

/-- The LOAD lines carry the code of the point at the point index (R88). -/
def Loaded (s : State) : Prop := ∀ point, s.plan[s.run.index]? = some point → s.run.load = point.load

/-- No timer of the run up to MEASURING runs. -/
def Untimed (r : Run) : Prop := r.latency = none ∧ r.source = none ∧ r.settle = none

section Shapes
variable {s t : State}

theorem RunOrder.congr (h : RunOrder s) (straps : t.straps = s.straps) (settings : t.settings.restCode = s.settings.restCode)
    (plan : t.plan = s.plan) (engine : t.engine = s.engine) (run : ∃ members done hold ending phaseLow doneLow srcReady phaseLine doneLine
      phaseReading doneReading, t.run = { s.run with
        members := members, done := done, hold := hold, ending := ending, phaseLow := phaseLow, doneLow := doneLow, srcReady := srcReady,
        phaseLine := phaseLine, doneLine := doneLine, phaseReading := phaseReading, doneReading := doneReading }) : RunOrder t := by
  obtain ⟨members, done, hold, ending, phaseLow, doneLow, srcReady, phaseLine, doneLine, phaseReading, doneReading, run⟩ := run
  obtain ⟨slave, others, phase, guards, latency, source, settle, point, timer, index, held, length, rest, load⟩ := h
  constructor <;> simp only [straps, settings, plan, engine, run] <;> assumption

/-- A run that measures its point. -/
theorem RunInOrder.of_measuring (state : s.run.state = .measuring) (phase : s.run.phaseHigh = decide (s.straps.role = .master))
    (drive : s.run.doneLow = decide (s.straps.role = .slave ∧ s.run.done ≠ s.run.members))
    (guards : s.run.guard.isSome = true ∨ s.run.holdOff.isSome = true → s.straps.role = .master) (untimed : Untimed s.run)
    (engine : s.engine.point = some s.run.index) (index : s.run.index < s.plan.length) (length : s.plan.length ≤ Config.planPlaces)
    (rest : s.straps.role = .slave → s.run.load = s.settings.restCode) (load : s.straps.role ≠ .slave → Loaded s) : RunInOrder s := by
  obtain ⟨latency, source, settle⟩ := untimed
  exact
    { slave := fun _ => .inr (.inr state)
      others := fun _ => by simp [state]
      phase := by simp [phase, state]
      guards := fun on => ⟨guards on, state⟩
      latency := by simp [latency]
      source := by simp [source]
      settle := by simp [settle]
      engine := by simp [engine, state]
      timer := fun _ => by simp [engine]
      index := fun _ => index
      held := by simp [state]
      length := length
      rest := fun h => rest (h.resolve_left (by simp [state]))
      load := fun role _ _ => load role
      drive := by simp [DoneDrive, drive, state] }

theorem not_running {p : Prop} {timer : Option Timer} (stopped : timer = none) (on : timer.isSome = true) : p := by simp [stopped] at on

/-- A run that waits between its points. -/
theorem Parked.inOrder (h : Parked s) (idle : s.run.state ≠ .idle) (still : s.run.state ≠ .measuring)
    (role : s.straps.role = .slave ↔ s.run.state = .following) (latency : s.run.latency.isSome = true → s.run.state = .sourcing .latency)
    (source : s.run.source.isSome = true → ∃ stage, s.run.state = .sourcing stage) (settle : s.run.settle.isSome = true → s.run.state = .settling)
    (held : s.run.state = .held → s.run.measured = true → s.run.index + 1 < s.plan.length)
    (load : s.straps.role ≠ .slave → s.run.state ≠ .held → Loaded s) : RunInOrder s where
  slave at_slave := .inr (.inl (role.mp at_slave))
  others other following := other (role.mpr following)
  phase := by simp [h.phase, still]
  guards := by simp [h.guard, h.holdOff]
  latency := latency
  source := source
  settle := settle
  engine := by simp [h.engine, still]
  timer := by simp [h.engine]
  index _ := h.index
  held := held
  length := h.length
  rest at_rest := h.rest (at_rest.resolve_left idle)
  load role _ := load role
  drive := by simp [DoneDrive, h.drive, still]

/-- A run that is over. -/
theorem RunInOrder.of_idle (state : s.run.state = .idle) (phase : s.run.phaseHigh = false) (drive : s.run.doneLow = false)
    (guard : s.run.guard = none) (holdOff : s.run.holdOff = none) (untimed : Untimed s.run) (engine : s.engine = ⟨none, none⟩)
    (length : s.plan.length ≤ Config.planPlaces) (rest : s.run.load = s.settings.restCode) : RunInOrder s := by
  obtain ⟨latency, source, settle⟩ := untimed
  exact
    { slave := fun _ => .inl state
      others := fun _ => by simp [state]
      phase := by simp [phase, state]
      guards := by simp [guard, holdOff]
      latency := by simp [latency]
      source := by simp [source]
      settle := by simp [settle]
      engine := by simp [engine, state]
      timer := by simp [engine]
      index := fun h => absurd state h
      held := by simp [state]
      length := length
      rest := fun _ => rest
      load := fun _ h => absurd state h
      drive := by simp [DoneDrive, drive, state] }

theorem RunInOrder.parked (h : RunInOrder s) (live : s.run.state ≠ .idle) (still : s.run.state ≠ .measuring) : Parked s where
  phase := by simp [h.phase, still]
  drive := by rw [h.drive]; simp [still]
  guard := by simpa [still] using mt (fun on => h.guards (.inl on))
  holdOff := by simpa [still] using mt (fun on => h.guards (.inr on))
  engine := by
    have point : s.engine.point = none := by rw [h.engine, if_neg still]
    have timer : s.engine.timer = none := by simpa [point] using h.timer
    rw [← point, ← timer]
  index := h.index live
  length := h.length
  rest role := h.rest (.inr role)

/-! ## Entering a point (R93 to R97, R113, R116) -/

theorem currentPoint_of_lt (inside : s.run.index < s.plan.length) : ∃ point, currentPoint s = some point :=
  ⟨_, List.getElem?_eq_getElem inside⟩

theorem RunInOrder.enterMeasuring (h : Parked s) (latency : s.run.latency = none) (source : s.run.source = none)
    (load : s.straps.role ≠ .slave → Loaded s) (members : s.straps.role = .slave → s.run.members ≠ 0) :
    RunInOrder (enterMeasuring s) := by
  obtain ⟨point, current⟩ := currentPoint_of_lt h.index
  unfold Machine.enterMeasuring
  simp only [current]
  split
  · next role =>
    replace role : s.straps.role = .solo := role
    exact .of_measuring rfl (by simp [Machine.startMeasurement, mapRecs, role, h.phase])
      (by simp [Machine.startMeasurement, mapRecs, role, h.drive]) (by simp [Machine.startMeasurement, mapRecs, h.guard, h.holdOff])
      ⟨latency, source, rfl⟩ rfl h.index h.length h.rest load
  · next role =>
    replace role : s.straps.role = .master := role
    exact .of_measuring rfl (by simp [Machine.startMeasurement, mapRecs, role]) (by simp [Machine.startMeasurement, mapRecs, role, h.drive])
      (fun _ => role) ⟨latency, source, rfl⟩ rfl h.index h.length h.rest load
  · next role =>
    replace role : s.straps.role = .slave := role
    have undone : (0 : PosSet) ≠ s.run.members := (members role).symm
    exact .of_measuring rfl (by simp [Machine.startMeasurement, mapRecs, role, h.phase])
      (by simpa [Machine.startMeasurement, mapRecs, role] using undone) (by simp [Machine.startMeasurement, mapRecs, h.guard, h.holdOff])
      ⟨latency, source, rfl⟩ rfl h.index h.length h.rest load

section Entering
variable (role : s.straps.role ≠ .slave)
include role

theorem RunInOrder.settleOver (h : Parked s) (state : s.run.state = .settling) (latency : s.run.latency = none)
    (source : s.run.source = none) (load : Loaded s) : RunInOrder (settleOver s) := by
  have over_ : Parked (s.setRun { s.run with settle := none }) :=
    ⟨h.phase, h.drive, h.guard, h.holdOff, h.engine, h.index, h.length, h.rest⟩
  unfold Machine.settleOver
  simp only
  split
  · exact over_.inOrder (by simp [state]) (by simp [state]) (by simp [role, state]) (by simp [latency]) (by simp [source]) (by simp)
      (by simp [state]) fun _ _ => load
  · exact .enterMeasuring over_ latency source (fun _ => load) fun slave => absurd slave role

theorem RunInOrder.enterSettling (h : Parked s) (load : Loaded s) : RunInOrder (enterSettling s) := by
  obtain ⟨point, current⟩ := currentPoint_of_lt h.index
  unfold Machine.enterSettling
  simp only [current]
  split
  · refine .settleOver role ?_ rfl rfl rfl load
    exact ⟨h.phase, h.drive, h.guard, h.holdOff, h.engine, h.index, h.length, h.rest⟩
  · refine Parked.inOrder ⟨h.phase, h.drive, h.guard, h.holdOff, h.engine, h.index, h.length, h.rest⟩ nofun nofun (by simp [role]) nofun
      nofun (fun _ => rfl) nofun fun _ _ => load

theorem RunInOrder.lookAtSource (h : Parked s) (settle : s.run.settle = none) (load : Loaded s) : RunInOrder (lookAtSource s) := by
  unfold Machine.lookAtSource
  split
  · exact .enterSettling role h load
  · exact Parked.inOrder ⟨h.phase, h.drive, h.guard, h.holdOff, h.engine, h.index, h.length, h.rest⟩ nofun nofun (by simp [role]) nofun
      (fun _ => ⟨_, rfl⟩) (by simp [settle]) nofun fun _ _ => load

theorem RunInOrder.enterSourcing (h : Parked s) (settle : s.run.settle = none) : RunInOrder (enterSourcing s) := by
  obtain ⟨point, current⟩ := currentPoint_of_lt h.index
  have loaded : ∀ other, s.plan[s.run.index]? = some other → point.load = other.load := fun other at_index => by
    rw [Option.some.inj (current.symm.trans at_index)]
  unfold Machine.enterSourcing
  simp only [current]
  split
  · refine .lookAtSource role ?_ settle loaded
    exact ⟨h.phase, h.drive, h.guard, h.holdOff, h.engine, h.index, h.length, fun slave => absurd slave role⟩
  · exact Parked.inOrder ⟨h.phase, h.drive, h.guard, h.holdOff, h.engine, h.index, h.length, fun slave => absurd slave role⟩ nofun nofun
      (by simp [role]) (fun _ => rfl) (fun _ => ⟨_, rfl⟩) (by simp [settle]) nofun fun _ _ => loaded

end Entering

/-! ## Ending a point and the run (R98 to R108, R117, R118) -/

/-- A point whose measurement has been stopped. -/
structure Stopped (s : State) : Prop where
  drive : s.run.doneLow = false
  untimed : Untimed s.run
  engine : s.engine = ⟨none, none⟩
  index : s.run.index < s.plan.length
  length : s.plan.length ≤ Config.planPlaces
  rest : s.straps.role = .slave → s.run.load = s.settings.restCode

theorem RunOrder.untimed (h : RunOrder s) (no_source : ∀ stage, s.run.state ≠ .sourcing stage) (no_settle : s.run.state ≠ .settling) :
    Untimed s.run :=
  ⟨by simpa [no_source] using h.latency, by simpa [no_source] using h.source, by simpa [no_settle] using h.settle⟩

theorem RunOrder.stopped (h : RunOrder s) (state : s.run.state = .measuring) : Stopped (stopEngine s) where
  drive := rfl
  untimed := h.untimed (by simp [state]) (by simp [state])
  engine := rfl
  index := h.index (by simp [state])
  length := h.length
  rest role := h.rest (.inr role)

theorem RunOrder.cut (h : RunOrder s) (state : s.run.state = .measuring) : Stopped (cutMeasurement s) := by
  have stopped := h.stopped state
  unfold cutMeasurement
  split
  · exact ⟨stopped.drive, stopped.untimed, stopped.engine, stopped.index, stopped.length, stopped.rest⟩
  · exact stopped

theorem RunInOrder.completeRun (h : Stopped s) (phase : s.run.phaseHigh = false) (guard : s.run.guard = none)
    (holdOff : s.run.holdOff = none) : RunInOrder (completeRun s) :=
  .of_idle rfl phase h.drive guard holdOff h.untimed h.engine h.length rfl

theorem RunInOrder.afterPoint (role : s.straps.role ≠ .slave) (h : Stopped s) (phase : s.run.phaseHigh = false) (guard : s.run.guard = none)
    (holdOff : s.run.holdOff = none) : RunInOrder (afterPoint s) := by
  obtain ⟨latency, source, settle⟩ := h.untimed
  unfold Machine.afterPoint
  split
  · exact .completeRun h phase guard holdOff
  · next more =>
    have more : s.run.index + 1 < s.plan.length := by simpa [atLastPoint] using more
    split
    · exact Parked.inOrder ⟨phase, h.drive, guard, holdOff, h.engine, h.index, h.length, h.rest⟩ nofun nofun (by simp [role])
        (by simp [latency]) (by simp [source]) (by simp [settle]) (fun _ _ => more) fun _ held => absurd rfl held
    · refine .enterSourcing role ?_ settle
      exact ⟨phase, h.drive, guard, holdOff, h.engine, more, h.length, h.rest⟩

theorem RunInOrder.endPoint (role : s.straps.role ≠ .slave) (h : Stopped s) : RunInOrder (endPoint s) := by
  unfold Machine.endPoint
  rw [lowerPhase_eq]
  refine .afterPoint role ?_ rfl rfl rfl
  exact ⟨h.drive, h.untimed, h.engine, h.index, h.length, h.rest⟩

theorem RunInOrder.breakOff (length : s.plan.length ≤ Config.planPlaces) (e : Ending) : RunInOrder (breakOff e s) := by
  unfold Machine.breakOff
  simp only
  rw [lowerPhase_eq]
  exact .of_idle rfl rfl rfl rfl rfl ⟨rfl, rfl, rfl⟩ rfl length rfl

theorem RunInOrder.abortRun (length : s.plan.length ≤ Config.planPlaces) : RunInOrder (abortRun s) :=
  .breakOff (s := mapRecs _ s) length .aborted

theorem RunInOrder.faultAbort (length : s.plan.length ≤ Config.planPlaces) (kind : BitVec 7) : RunInOrder (faultAbort kind s) :=
  .abortRun (s := raiseFault kind 0 s) length

/-- The members or their done set changed: the DONE drive follows, or the point may end (R97, R117). -/
theorem RunOrder.membersChanged (h : RunOrder s) (drive : s.straps.role ≠ .slave → s.run.doneLow = false) :
    RunInOrder (membersChanged s) := by
  have undriven : s.straps.role ≠ .slave → DoneDrive s := fun role => by simp [DoneDrive, drive role, role]
  unfold Machine.membersChanged
  split
  · next role =>
    exact ⟨h.congr rfl rfl rfl rfl ⟨_, _, _, _, _, _, _, _, _, _, _, rfl⟩, by
      simp only [DoneDrive, State.setRun_run, State.setRun_straps, role, true_and]
      rw [Bool.eq_iff_iff]
      simp⟩
  · next role =>
    have role : s.straps.role ≠ .slave := role
    split
    · next ended => exact .endPoint role (h.stopped (pointEndHolds_measuring ended))
    · exact ⟨h, undriven role⟩

theorem cutMeasurement_run (s : State) : (cutMeasurement s).run = { s.run with done := 0, doneLow := false } := by
  unfold cutMeasurement
  split <;> rfl

theorem RunInOrder.slavePointEnd (h : RunInOrder s) (role : s.straps.role = .slave) (state : s.run.state = .measuring) :
    RunInOrder (slavePointEnd s) := by
  have cut := h.cut state
  have phase : (cutMeasurement s).run.phaseHigh = false := by rw [cutMeasurement_run]; simp [h.phase, role]
  have guard : (cutMeasurement s).run.guard = none := by rw [cutMeasurement_run]; simpa [role] using mt (fun on => h.guards (.inl on))
  have holdOff : (cutMeasurement s).run.holdOff = none := by rw [cutMeasurement_run]; simpa [role] using mt (fun on => h.guards (.inr on))
  have straps : (cutMeasurement s).straps = s.straps := (cutMeasurement_frame s).2 .straps (by decide)
  obtain ⟨latency, source, settle⟩ := cut.untimed
  unfold Machine.slavePointEnd
  generalize cutMeasurement s = u at *
  simp only
  split
  · exact .completeRun ⟨cut.drive, cut.untimed, cut.engine, cut.index, cut.length, cut.rest⟩ phase guard holdOff
  · next more =>
    have more : u.run.index + 1 < u.plan.length := not_le.mp fun last => more (decide_eq_true last)
    refine Parked.inOrder ⟨phase, cut.drive, guard, holdOff, cut.engine, more, cut.length, cut.rest⟩ nofun nofun ?_
      (not_running latency) (not_running source) (not_running settle) nofun fun other => ?_
    · exact iff_of_true (straps ▸ role) rfl
    · exact absurd (straps ▸ role : u.straps.role = .slave) other

/-! ## Every part of the run -/

/-- What the run reads on its lines, and the sets and marks no law of the run reads, may change. -/
theorem RunInOrder.of_lines (h : RunInOrder s) (straps : t.straps = s.straps) (settings : t.settings.restCode = s.settings.restCode)
    (plan : t.plan = s.plan) (engine : t.engine = s.engine) (run : ∃ hold ending phaseLow srcReady phaseLine doneLine
      phaseReading doneReading, t.run = { s.run with
        hold := hold, ending := ending, phaseLow := phaseLow, srcReady := srcReady, phaseLine := phaseLine, doneLine := doneLine,
        phaseReading := phaseReading, doneReading := doneReading }) : RunInOrder t := by
  obtain ⟨hold, ending, phaseLow, srcReady, phaseLine, doneLine, phaseReading, doneReading, run⟩ := run
  refine ⟨h.toRunOrder.congr straps settings plan engine ⟨_, _, _, _, _, _, _, _, _, _, _, run⟩, ?_⟩
  rw [DoneDrive, run, straps]
  exact h.drive

theorem RunInOrder.undriven (h : RunInOrder s) (role : s.straps.role ≠ .slave) : s.run.doneLow = false := by
  rw [h.drive]
  simp [role]

theorem RunInOrder.ite {c : Prop} [Decidable c] {u : State} (h : RunInOrder t) (k : RunInOrder u) : RunInOrder (if c then t else u) := by
  split
  · exact h
  · exact k

theorem RunInOrder.start (h : RunInOrder s) : RunInOrder (reqRunStart s).1 := by
  unfold reqRunStart
  split
  · exact h
  · next open_ =>
    obtain ⟨idle, plan, -⟩ := startRefusal_eq_none open_
    obtain ⟨latency, source, settle⟩ := h.untimed (by simp [idle]) (by simp [idle])
    have inside : 0 < s.plan.length := List.length_pos_iff.mpr plan
    have phase : s.run.phaseHigh = false := by simp [h.phase, idle]
    have drive : s.run.doneLow = false := by rw [h.drive]; simp [idle]
    have guard : s.run.guard = none := by simpa [idle] using mt (fun on => h.guards (.inl on))
    have holdOff : s.run.holdOff = none := by simpa [idle] using mt (fun on => h.guards (.inr on))
    have point : s.engine.point = none := by simp [h.engine, idle]
    have timer : s.engine.timer = none := by simpa [point] using h.timer
    have engine : s.engine = ⟨none, none⟩ := by rw [← point, ← timer]
    have rest := h.rest (.inl idle)
    simp only
    split
    · next role =>
      replace role : s.straps.role = .slave := role
      exact Parked.inOrder ⟨phase, drive, guard, holdOff, engine, inside, h.length, fun _ => rest⟩ nofun nofun (iff_of_true role rfl)
        (not_running latency) (not_running source) (not_running settle) nofun fun other => absurd role other
    · next role =>
      refine .enterSourcing role ?_ settle
      exact ⟨phase, drive, guard, holdOff, engine, inside, h.length, fun _ => rest⟩

theorem RunInOrder.hold (h : RunInOrder s) : RunInOrder (holdRun s).1 := by
  unfold holdRun
  split
  · exact h
  · next role =>
    split
    · exact h
    · next stage state =>
      have parked := h.parked (by simp [state]) (by simp [state])
      have settle : s.run.settle = none := by simpa [state] using h.settle
      exact Parked.inOrder ⟨parked.phase, parked.drive, parked.guard, parked.holdOff, parked.engine, parked.index, parked.length, parked.rest⟩
        nofun nofun (by simp [role]) nofun nofun (by simp [settle]) nofun fun _ held => absurd rfl held
    · next state =>
      have parked := h.parked (by simp [state]) (by simp [state])
      have latency : s.run.latency = none := by simpa [state] using h.latency
      have source : s.run.source = none := by simpa [state] using h.source
      exact Parked.inOrder ⟨parked.phase, parked.drive, parked.guard, parked.holdOff, parked.engine, parked.index, parked.length, parked.rest⟩
        nofun nofun (by simp [role]) (by simp [latency]) (by simp [source]) nofun nofun fun _ held => absurd rfl held
    · exact h.of_lines rfl rfl rfl rfl ⟨_, _, _, _, _, _, _, _, rfl⟩
    · exact h
    · exact h

theorem RunInOrder.resume (h : RunInOrder s) : RunInOrder (resumeRun s).1 := by
  unfold resumeRun
  split
  · exact h
  · next role =>
    split
    · next state =>
      have parked := h.parked (by simp [state]) (by simp [state])
      have settle : s.run.settle = none := by simpa [state] using h.settle
      simp only
      split
      · next measured =>
        refine .enterSourcing role ?_ settle
        exact ⟨parked.phase, parked.drive, parked.guard, parked.holdOff, parked.engine, h.held state measured, parked.length, parked.rest⟩
      · exact .enterSourcing role parked settle
    · exact h

theorem RunInOrder.exclude (h : RunInOrder s) (p : Pos) : RunInOrder (excludeAt p s).1 := by
  unfold excludeAt
  simp only
  split
  · exact h
  · refine RunInOrder.ite ?_ ?_
    · refine RunInOrder.breakOff ?_ .emptied
      exact h.length
    · exact RunOrder.membersChanged (h.toRunOrder.congr rfl rfl rfl rfl ⟨_, _, _, _, _, _, _, _, _, _, _, rfl⟩) h.undriven

theorem RunInOrder.edge (h : RunInOrder s) (p : Pos) : RunInOrder (deliverEdge p s) := by
  unfold deliverEdge
  simp only
  split
  · refine RunInOrder.ite ?_ h
    unfold applyEdge
    simp only
    split
    · exact h.of_lines rfl rfl rfl rfl ⟨_, _, _, _, _, _, _, _, rfl⟩
    · exact RunOrder.membersChanged (h.toRunOrder.congr rfl rfl rfl rfl ⟨_, _, _, _, _, _, _, _, _, _, _, rfl⟩) h.undriven
  · exact h

theorem RunInOrder.referenceLost (h : RunInOrder s) : RunInOrder (referenceLost s) := by
  unfold Machine.referenceLost
  split
  · exact RunInOrder.ite (h.of_lines rfl rfl rfl rfl ⟨_, _, _, _, _, _, _, _, rfl⟩) (h.of_lines rfl rfl rfl rfl ⟨_, _, _, _, _, _, _, _, rfl⟩)
  · exact h

theorem RunInOrder.pointExpiry (h : RunInOrder s) : RunInOrder (pointExpiry s) := by
  unfold Machine.pointExpiry
  split
  · refine RunOrder.membersChanged ?_ h.undriven
    exact ⟨h.slave, h.others, h.phase, h.guards, h.latency, h.source, h.settle, h.engine, nofun, h.index, h.held, h.length, h.rest, h.load⟩
  · exact h

theorem RunInOrder.loaded (h : RunInOrder s) (role : s.straps.role ≠ .slave) (live : s.run.state ≠ .idle) (waits : s.run.state ≠ .held) :
    Loaded s := h.load role live waits

theorem RunInOrder.not_slave (h : RunInOrder s) (idle : s.run.state ≠ .idle) (following : s.run.state ≠ .following)
    (measuring : s.run.state ≠ .measuring) : s.straps.role ≠ .slave := fun role => by
  rcases h.slave role with state | state | state
  · exact idle state
  · exact following state
  · exact measuring state

theorem RunInOrder.latencyExpiry (h : RunInOrder s) : RunInOrder (latencyExpiry s) := by
  unfold Machine.latencyExpiry
  split
  · next due =>
    obtain ⟨-, state⟩ := due
    have role := h.not_slave (by simp [state]) (by simp [state]) (by simp [state])
    exact .lookAtSource role (h.parked (by simp [state]) (by simp [state])) (by simpa [state] using h.settle)
      (h.loaded role (by simp [state]) (by simp [state]))
  · exact h

theorem RunInOrder.settleExpiry (h : RunInOrder s) : RunInOrder (settleExpiry s) := by
  unfold Machine.settleExpiry
  split
  · next due =>
    obtain ⟨-, state⟩ := due
    have role := h.not_slave (by simp [state]) (by simp [state]) (by simp [state])
    exact .settleOver role (h.parked (by simp [state]) (by simp [state])) state (by simpa [state] using h.latency)
      (by simpa [state] using h.source) (h.loaded role (by simp [state]) (by simp [state]))
  · exact h

theorem RunInOrder.phaseLowEnd (h : RunInOrder s) : RunInOrder (phaseLowEnd s) := by
  unfold Machine.phaseLowEnd
  split
  · have low : RunInOrder (s.setRun { s.run with phaseLow := none }) := h.of_lines rfl rfl rfl rfl ⟨_, _, _, _, _, _, _, _, rfl⟩
    generalize s.setRun { s.run with phaseLow := none } = u at low
    simp only
    split
    · next settled =>
      obtain ⟨role, state, -⟩ := settled
      have load := low.loaded (by simp [role]) (by simp [state]) (by simp [state])
      exact .enterMeasuring (low.parked (by simp [state]) (by simp [state])) (by simpa [state] using low.latency)
        (by simpa [state] using low.source) (fun _ => load) (by simp [role])
    · exact low
  · exact h

theorem RunInOrder.holdOffExpiry (h : RunInOrder s) : RunInOrder (holdOffExpiry s) := by
  refine RunInOrder.ite (RunOrder.membersChanged ?_ h.undriven) h
  exact ⟨h.slave, h.others, h.phase, fun on => h.guards (on.imp id nofun), h.latency, h.source, h.settle, h.engine, h.timer, h.index, h.held,
    h.length, h.rest, h.load⟩

theorem RunInOrder.guardExpiry (h : RunInOrder s) : RunInOrder (guardExpiry s) := by
  unfold Machine.guardExpiry
  split
  · next due =>
    obtain ⟨due, state⟩ := due
    have runs : s.run.guard.isSome = true := by
      cases guard : s.run.guard with
      | none => simp [guard] at due
      | some => rfl
    have role : s.straps.role = .master := (h.guards (.inl runs)).1
    have cut := h.cut state
    have straps : (cutMeasurement s).straps = s.straps := (cutMeasurement_frame s).2 .straps (by decide)
    refine .endPoint (s := raiseFault cascadeCutKind 0 (cutMeasurement s)) ?_ ?_
    · change (cutMeasurement s).straps.role ≠ .slave
      simp [straps, role]
    · exact ⟨cut.drive, cut.untimed, cut.engine, cut.index, cut.length, cut.rest⟩
  · exact h

theorem RunInOrder.srcReadyRise (h : RunInOrder s) : RunInOrder (srcReadyRise s) := by
  have heard : RunInOrder (s.setRun { s.run with srcReady := confirmed true }) := h.of_lines rfl rfl rfl rfl ⟨_, _, _, _, _, _, _, _, rfl⟩
  unfold Machine.srcReadyRise
  generalize s.setRun { s.run with srcReady := confirmed true } = u at heard
  simp only
  split
  · next ready =>
    obtain ⟨role, state⟩ := ready
    exact .enterSettling role (heard.parked (by simp [state]) (by simp [state])) (heard.loaded role (by simp [state]) (by simp [state]))
  · exact heard

theorem RunInOrder.srcReadyFall (h : RunInOrder s) : RunInOrder (srcReadyFall s) := by
  have heard : RunInOrder (s.setRun { s.run with srcReady := confirmed false }) := h.of_lines rfl rfl rfl rfl ⟨_, _, _, _, _, _, _, _, rfl⟩
  unfold Machine.srcReadyFall
  generalize s.setRun { s.run with srcReady := confirmed false } = u at heard
  simp only
  split
  · exact heard
  · next role =>
    split
    · next state =>
      have parked := heard.parked (by simp [state]) (by simp [state])
      have latency : u.run.latency = none := by simpa [state] using heard.latency
      exact Parked.inOrder ⟨parked.phase, parked.drive, parked.guard, parked.holdOff, parked.engine, parked.index, parked.length, parked.rest⟩
        nofun nofun (by simp [role]) (by simp [latency]) (fun _ => ⟨_, rfl⟩) nofun nofun
        fun _ _ => heard.loaded role (by simp [state]) (by simp [state])
    · exact .faultAbort heard.length _
    · exact heard

theorem RunInOrder.phaseLineRise (h : RunInOrder s) (members : s.run.state ≠ .idle → s.run.members ≠ 0) : RunInOrder (phaseLineRise s) := by
  have heard : RunInOrder (s.setRun { s.run with phaseLine := confirmed true }) := h.of_lines rfl rfl rfl rfl ⟨_, _, _, _, _, _, _, _, rfl⟩
  have some : (s.setRun { s.run with phaseLine := confirmed true }).run.state ≠ .idle →
      (s.setRun { s.run with phaseLine := confirmed true }).run.members ≠ 0 := members
  unfold Machine.phaseLineRise
  generalize s.setRun { s.run with phaseLine := confirmed true } = u at heard some
  simp only
  split
  · next follows =>
    obtain ⟨role, state⟩ := follows
    exact .enterMeasuring (heard.parked (by simp [state]) (by simp [state])) (by simpa [state] using heard.latency)
      (by simpa [state] using heard.source) (fun other => absurd role other) fun _ => some (by simp [state])
  · exact heard

theorem RunInOrder.phaseLineFall (h : RunInOrder s) : RunInOrder (phaseLineFall s) := by
  have heard : RunInOrder (s.setRun { s.run with phaseLine := confirmed false }) := h.of_lines rfl rfl rfl rfl ⟨_, _, _, _, _, _, _, _, rfl⟩
  unfold Machine.phaseLineFall
  generalize s.setRun { s.run with phaseLine := confirmed false } = u at heard
  simp only
  split
  · next measures => exact heard.slavePointEnd measures.1 measures.2
  · exact heard

theorem RunInOrder.runPart (h : RunInOrder s) (members : s.run.state ≠ .idle → s.run.members ≠ 0) (part : RunPart s t) : RunInOrder t := by
  cases part with
  | start => exact h.start
  | hold => exact h.hold
  | resume => exact h.resume
  | abort => exact h.ite (.abortRun h.length)
  | exclude p => exact h.exclude p
  | edge p => exact h.edge p
  | referenceLost => exact h.referenceLost
  | pointExpiry => exact h.pointExpiry
  | latencyExpiry => exact h.latencyExpiry
  | sourceExpiry =>
    unfold sourceExpiry
    split
    · exact RunInOrder.ite (.faultAbort h.length _) h
    · exact h
  | settleExpiry => exact h.settleExpiry
  | phaseLowEnd => exact h.phaseLowEnd
  | holdOffExpiry => exact h.holdOffExpiry
  | guardExpiry => exact h.guardExpiry
  | srcReadyRise => exact h.srcReadyRise
  | srcReadyFall => exact h.srcReadyFall
  | phaseLineRise => exact h.phaseLineRise members
  | phaseLineFall => exact h.phaseLineFall
  | doneLineRise =>
    have heard : RunInOrder (s.setRun { s.run with doneLine := confirmed true }) := h.of_lines rfl rfl rfl rfl ⟨_, _, _, _, _, _, _, _, rfl⟩
    exact RunInOrder.ite (heard.toRunOrder.membersChanged heard.undriven) heard
  | lines => exact h.of_lines rfl rfl rfl rfl ⟨_, _, _, _, _, _, _, _, rfl⟩

/-! ## Every change -/

theorem RunInOrder.frame {bs : List Block} (h : RunInOrder s) (frame : OnlyChanges bs s t) (straps : Block.straps ∉ bs := by decide)
    (settings : Block.settings ∉ bs := by decide) (plan : Block.plan ∉ bs := by decide) (engine : Block.engine ∉ bs := by decide)
    (run : Block.run ∉ bs := by decide) : RunInOrder t :=
  h.of_lines (frame.2 .straps straps) (congrArg Settings.restCode (frame.2 .settings settings)) (frame.2 .plan plan)
    (frame.2 .engine engine) ⟨_, _, _, _, _, _, _, _, frame.2 .run run⟩

theorem writeSetting_restCode (v : Settings) {id : Nat} (n : Nat) (other : id ≠ 0x12) : (writeSetting v id n).restCode = v.restCode := by
  unfold writeSetting
  split
  case h_7 => exact absurd rfl other
  all_goals rfl

theorem RunInOrder.set (h : RunInOrder s) (id : Byte) (value : BitVec 32) : RunInOrder (reqSet id value s).1 := by
  rcases reqSet_cases id value s with same | ⟨n, -, -, set⟩
  · rwa [same]
  · have other : id.toNat ≠ 0x12 → RunInOrder (s.setSettings (writeSetting s.settings id.toNat n)) := fun other =>
      h.of_lines rfl (writeSetting_restCode s.settings n other) rfl rfl ⟨_, _, _, _, _, _, _, _, rfl⟩
    generalize (reqSet id value s).1 = t at set
    cases set with
    | plain _ _ load =>
      by_cases at_id : id.toNat = 0x12
      · exact ⟨⟨h.slave, h.others, h.phase, h.guards, h.latency, h.source, h.settle, h.engine, h.timer, h.index, h.held, h.length,
          fun rests => absurd rests (load at_id), h.load⟩, h.drive⟩
      · exact other at_id
    | load _ rests =>
      refine ⟨⟨h.slave, h.others, h.phase, h.guards, h.latency, h.source, h.settle, h.engine, h.timer, h.index, h.held, h.length,
        fun _ => rfl, fun role live => ?_⟩, h.drive⟩
      exact absurd rests (not_or.mpr ⟨live, role⟩)
    | excitation at_id => exact (other (by simp [at_id])).of_lines rfl rfl rfl rfl ⟨_, _, _, _, _, _, _, _, rfl⟩
    | travel at_id => exact (other (by simp [at_id])).of_lines rfl rfl rfl rfl ⟨_, _, _, _, _, _, _, _, rfl⟩
    | mask at_id => exact (other (by simp [at_id])).of_lines rfl rfl rfl rfl ⟨_, _, _, _, _, _, _, _, rfl⟩

theorem planRefusal_eq_none (open_ : planRefusal s = none) : s.run.state = .idle ∧
    ∀ p, (getRec s p).state ≠ .passed ∧ (getRec s p).state ≠ .failed := by
  unfold planRefusal at open_
  split_ifs at open_ with busy verdicts
  refine ⟨not_not.mp busy, fun p => ?_⟩
  rw [anyRec_iff] at verdicts
  have none := not_exists.mp verdicts p
  simpa [not_or] using none

theorem RunInOrder.plan {points : List Point} (h : RunInOrder s) (open_ : planRefusal s = none)
    (fits : s.plan.length ≤ Config.planPlaces → points.length ≤ Config.planPlaces) : RunInOrder (editPlan points s) := by
  obtain ⟨idle, -⟩ := planRefusal_eq_none open_
  exact ⟨⟨h.slave, h.others, h.phase, h.guards, h.latency, h.source, h.settle, h.engine, h.timer, fun live => absurd idle live,
    fun held => absurd (idle.symm.trans held) (by decide), fits h.length, h.rest, fun _ live => absurd idle live⟩, h.drive⟩

theorem RunInOrder.tick (h : RunInOrder s) : RunInOrder (tickTimers s) := by
  have runs : ∀ t : Option Timer, (tickTimer t).isSome = true → t.isSome = true := fun t on => by rwa [tickTimer_isSome] at on
  exact ⟨⟨h.slave, h.others, h.phase, fun on => h.guards (on.imp (runs _) (runs _)), fun on => h.latency (runs _ on),
    fun on => h.source (runs _ on), fun on => h.settle (runs _ on), h.engine, fun on => h.timer (runs _ on), h.index, h.held, h.length,
    h.rest, h.load⟩, h.drive⟩

theorem RunInOrder.change (h : RunInOrder s) (bench : BenchOrder s) (change : Change s t) : RunInOrder t := by
  cases change with
  | link l => exact h.frame (setLink_frame s l)
  | part part =>
    cases part with
    | cursor => exact h.frame (setLink_frame s _)
    | front f => exact h.frame (setFront_frame s f)
    | panel v => exact h.frame (setPanel_frame s v)
    | attend a => exact h.frame (putAttn_frame s a)
    | set id value => exact h.set id value
    | plan points open_ fits => exact h.plan open_ fits
    | rollLoad slot first last => exact h.frame (reqRollLoad_frame s slot first last)
    | rollDrop slot => exact h.frame (reqRollDrop_frame s slot)
    | record part => exact h.frame part.frame
    | run part =>
      obtain ⟨-, idle, -⟩ := bench.run
      exact h.runPart (fun live => mt idle.mpr live) part
    | unit part => exact h.frame part.frame
    | tickTimers => exact h.tick

theorem RunInOrder.step (bench : BenchLaw s) (h : RunInOrder s) (next : step s = .next t) : RunInOrder t := by
  refine step_keeps_with_bench (fun u rest h => ?_) (fun straps u => ?_) (fun u h => h.frame (quietExpiry_frame u))
    (fun change bench h => h.change bench change) bench h next
  · exact h.of_lines rfl rfl rfl rfl ⟨_, _, _, _, _, _, _, _, rfl⟩
  · rw [fullReset_eq_atReset]
    exact runInOrder_iff.mpr ⟨cascadeLaw_atReset .., measurementLaw_atReset ..⟩

end Shapes

/-- Settles O59: both laws of the run are kept together. -/
theorem everyStepKeepsTheCascadeLinesToTheRun : Obligations.EveryStepKeepsTheCascadeLinesToTheRun := fun _ _ bench measurement cascade next =>
  (runInOrder_iff.mp (RunInOrder.step bench (runInOrder_iff.mpr ⟨cascade, measurement⟩) next)).1

/-- Settles O60. -/
theorem everyStepKeepsTheMeasurementToTheRun : Obligations.EveryStepKeepsTheMeasurementToTheRun := fun _ _ bench cascade measurement next =>
  (runInOrder_iff.mp (RunInOrder.step bench (runInOrder_iff.mpr ⟨cascade, measurement⟩) next)).2

end Sys2Proof.Machine
end

section
/-! PROOF. The requests of the run and EXCLUDE (R91, R101 to R108, R115, R119). -/

namespace Sys2Proof.Machine

section Run
variable {s : State} {p : Pos}

/-! ## RUN_HOLD and RUN_RESUME (R101, R103, R119) -/

theorem holdRun_slave (role : s.straps.role = .slave) : holdRun s = (s, .wrongState) := if_pos role

theorem holdRun_eq (role : s.straps.role ≠ .slave) : holdRun s =
    match s.run.state with
    | .idle => (s, .wrongState)
    | .sourcing _ => (s.setRun { s.run with state := .held, measured := false, latency := none, source := none }, .ok)
    | .settling => (s.setRun { s.run with state := .held, measured := false, settle := none }, .ok)
    | .measuring => (s.setRun { s.run with hold := true }, .ok)
    | .held => (s, .ok)
    | .following => (s, .wrongState) := if_neg role

theorem resumeRun_slave (role : s.straps.role = .slave) : resumeRun s = (s, .wrongState) := if_pos role

theorem resumeRun_held (role : s.straps.role ≠ .slave) (held : s.run.state = .held) :
    resumeRun s = (enterSourcing (if s.run.measured then s.setRun (nextPoint s.run) else s), .ok) := by
  simp only [resumeRun, if_neg role, held]

theorem resumeRun_not_held (other : s.run.state ≠ .held) : resumeRun s = (s, .wrongState) := by
  unfold resumeRun
  split
  · rfl
  · split
    · next held => exact absurd held other
    · rfl

theorem exec_runHold {t : State} {st : Status} (how : Addressing) (take : CanTake s)
    (h : holdRun (s.setLink (takenLink s.link)) = (t.setLink (takenLink t.link), st)) :
    exec (.runHold how) s = answered how st [] t :=
  request_eq_answered take rfl (congrArg (fun r : State × Status => answer r.2 r.1) h)

theorem exec_runResume {t : State} {st : Status} (how : Addressing) (take : CanTake s)
    (h : resumeRun (s.setLink (takenLink s.link)) = (t.setLink (takenLink t.link), st)) :
    exec (.runResume how) s = answered how st [] t :=
  request_eq_answered take rfl (congrArg (fun r : State × Status => answer r.2 r.1) h)

/-- The link does not matter to the entry of SOURCING, which leaves it as it is. -/
theorem enterSourcing_taken (s : State) :
    enterSourcing (s.setLink (takenLink s.link)) = (enterSourcing s).setLink (takenLink (enterSourcing s).link) := by
  have link : (enterSourcing s).link = s.link := (enterSourcing_frame s).2 .link (by decide)
  rw [enterSourcing_setLink, link]

end Run

/-- Settles O29, by the cases of the run state. -/
theorem holdAndResumeActByRunState : Obligations.HoldAndResumeActByRunState := by
  intro how s take
  refine ⟨fun slave => ⟨?_, ?_⟩, fun role => ?_⟩
  · exact exec_runHold how take (holdRun_slave slave)
  · exact exec_runResume how take (resumeRun_slave slave)
  have hold := holdRun_eq (s := s.setLink (takenLink s.link)) role
  have resume := resumeRun_held (s := s.setLink (takenLink s.link)) role
  refine ⟨fun refused => ?_, fun stage state => ?_, fun state => ?_, fun state => ?_, fun state => ?_, fun state => ?_, fun state measured => ?_,
    fun state measured => ?_⟩
  · refine exec_runHold how take (hold.trans ?_)
    rcases refused with state | state <;> rw [State.setLink_run, state]
  · exact exec_runHold how take (hold.trans (by rw [State.setLink_run, state]; rfl))
  · exact exec_runHold how take (hold.trans (by rw [State.setLink_run, state]; rfl))
  · exact exec_runHold how take (hold.trans (by rw [State.setLink_run, state]; rfl))
  · exact exec_runHold how take (hold.trans (by rw [State.setLink_run, state]))
  · exact exec_runResume how take (resumeRun_not_held state)
  · refine exec_runResume how take ((resume state).trans ?_)
    rw [State.setLink_run, if_pos measured]
    exact congrArg (·, Status.ok) (enterSourcing_taken (s.setRun (nextPoint s.run)))
  · refine exec_runResume how take ((resume state).trans ?_)
    rw [State.setLink_run, if_neg (by simp [measured])]
    exact congrArg (·, Status.ok) (enterSourcing_taken s)

/-! ## RUN_ABORT (R104, R119) -/

section Abort
variable {s : State} {p : Pos}

theorem breakOff_run (e : Ending) (s : State) : (breakOff e s).run = { s.run with
    state := .idle, measured := false, members := 0, done := 0, hold := false, ending := e, latency := none
    source := none, settle := none, guard := none, holdOff := none
    phaseLow := if s.run.phaseHigh then some ⟨3, 3⟩ else s.run.phaseLow, phaseHigh := false, doneLow := false
    load := s.settings.restCode } := by
  unfold breakOff
  simp only
  rw [lowerPhase_eq]
  rfl

theorem breakOff_eq (e : Ending) (s : State) : breakOff e s = { s with
    engine := ⟨none, none⟩
    attn := { s.attn with runEnd := some e, atn := (breakOff e s).attn.atn }
    run := { s.run with
      state := .idle, measured := false, members := 0, done := 0, hold := false, ending := e, latency := none
      source := none, settle := none, guard := none, holdOff := none
      phaseLow := if s.run.phaseHigh then some ⟨3, 3⟩ else s.run.phaseLow, phaseHigh := false, doneLow := false
      load := s.settings.restCode } } :=
  congrArg (fun run => { s with
    engine := ⟨none, none⟩
    attn := { s.attn with runEnd := some e, atn := (breakOff e s).attn.atn }
    run := run }) (breakOff_run e s)

theorem abortRun_run (s : State) : (abortRun s).run = { s.run with
    state := .idle, measured := false, members := 0, done := 0, hold := false, ending := .aborted, latency := none
    source := none, settle := none, guard := none, holdOff := none
    phaseLow := if s.run.phaseHigh then some ⟨3, 3⟩ else s.run.phaseLow, phaseHigh := false, doneLow := false
    load := s.settings.restCode } := breakOff_run .aborted _

theorem getRec_abortRun (s : State) (p : Pos) : getRec (abortRun s) p =
    if s.run.members.has p then { getRec s p with state := .ready, context := none } else getRec s p :=
  getRec_mapRecs s (fun p r => if s.run.members.has p then { r with state := .ready, context := none } else r) p

theorem abortRun_attn (s : State) : ∃ atn, (abortRun s).attn = { s.attn with runEnd := some .aborted, atn := atn } := ⟨_, rfl⟩

theorem abortRun_link (s : State) : (abortRun s).link = s.link := (abortRun_frame s).2 .link (by decide)

end Abort

/-- Settles O30. -/
theorem abortReturnsTheMembersToReady : Obligations.AbortReturnsTheMembersToReady := by
  intro s
  refine ⟨fun how take idle => ?_, fun how take live => ?_, abortRun_frame s, rfl, getRec_abortRun s, rfl, abortRun_run s, abortRun_attn s,
    atnLaw_abortRun s⟩
  · exact request_eq_answered take rfl (congrArg (answer .ok) (if_pos idle))
  · refine request_eq_answered take rfl (congrArg (answer .ok) ((if_neg live).trans ?_))
    rw [abortRun_setLink, abortRun_link]

/-! ## RUN_START (R91, R115) -/

section Start
variable {s : State} {p : Pos}

/-- The READY records made members, with the run as it then stands (R91). -/
def membersJoined (s : State) : State :=
  (mapRecs (fun _ => joinRun s.plan) s).setRun { s.run with
    index := 0, measured := false, hold := false, members := recsWith s fun r => r.state = .ready, done := 0 }

theorem reqRunStart_accepted (h : startRefusal s = none) : reqRunStart s = answer .ok
    (if s.straps.role = .slave then (membersJoined s).setRun { (membersJoined s).run with state := .following }
      else enterSourcing (membersJoined s)) := by
  simp only [reqRunStart, h]
  rfl

theorem startRefusal_eq (s : State) : startRefusal s =
    if s.run.state ≠ .idle ∨ s.straps.role = .slave ∧ s.run.phaseLine.level = true then some .busy
    else if s.plan = [] ∨ ∀ p, (getRec s p).state ≠ .ready then some .wrongState
    else none := by
  have nobody : (!anyRec s fun r => r.state = .ready) = true ↔ ∀ p, (getRec s p).state ≠ .ready := by
    rw [Bool.not_eq_true', ← Bool.not_eq_true, anyRec_iff]
    simp
  unfold startRefusal
  simp only [nobody]
  split_ifs <;> simp_all

theorem getRec_membersJoined (p : Pos) : getRec (membersJoined s) p =
    if (getRec s p).state = .ready then { getRec s p with
      state := .active, results := s.plan.map fun point => ⟨.notRun, point.body.method, 0, none, none, false⟩
      context := some ⟨.awaitEdge, 0, 0, 0, none, 0, 0, false⟩ }
    else getRec s p := getRec_mapRecs s (fun _ => joinRun s.plan) p

theorem membersJoined_frame (s : State) : OnlyChanges [.table, .run] s (membersJoined s) := (mapRecs_frame s _).comp (setRun_frame _ _)

end Start

/-- Settles O28. -/
theorem runStartMakesTheReadyRecordsMembers : Obligations.RunStartMakesTheReadyRecordsMembers := by
  intro s take
  have refusal := startRefusal_eq (s.setLink (takenLink s.link))
  refine ⟨fun busy => ?_, fun free nothing => ?_, fun free some => ?_⟩
  · refine request_addressed_eq_answered take ?_
    simp only [reqRunStart, refusal.trans (if_pos busy)]
    rfl
  · refine request_addressed_eq_answered take ?_
    simp only [reqRunStart, (refusal.trans (if_neg free)).trans (if_pos nothing)]
    rfl
  · have accepted := reqRunStart_accepted ((refusal.trans (if_neg free)).trans (if_neg some))
    have idle : s.run.state = .idle := not_not.mp fun live => free (.inl live)
    refine ⟨(membersJoined s).setRun { (membersJoined s).run with state := if s.straps.role = .slave then .following else .idle },
      recsWith s fun r => r.state = .ready, (membersJoined_frame s).comp (setRun_frame _ _), rfl, getRec_membersJoined, fun p => by simp, rfl,
      fun slave => ?_, fun role => ?_⟩
    · refine request_addressed_eq_answered take (accepted.trans ?_)
      rw [State.setLink_straps, if_pos slave, if_pos slave]
      rfl
    · have parked : (membersJoined s).setRun { (membersJoined s).run with state := if s.straps.role = .slave then .following else .idle } =
          membersJoined s := by
        rw [if_neg role, ← idle]
        rfl
      rw [parked]
      refine request_addressed_eq_answered take (accepted.trans ?_)
      rw [State.setLink_straps, if_neg role]
      exact congrArg (answer .ok) (enterSourcing_taken (membersJoined s))

/-! ## EXCLUDE (R107, R108) -/

section Exclude
variable {s : State} {p : Pos}

/-- The member taken out of the run (R107). -/
def memberOut (p : Pos) (s : State) : State :=
  (putRec s p { getRec s p with state := .failed, results := excludeEntries s.run.index (getRec s p).results, context := none }).setRun
    { s.run with members := s.run.members.erase p, done := s.run.done.erase p }

theorem excludeAt_active (active : (getRec s p).state = .active) : excludeAt p s = answer .ok (afterExclusion (memberOut p s)) := by
  simp only [excludeAt, active]
  rfl

theorem excludeAt_not_active (other : (getRec s p).state ≠ .active) : excludeAt p s = answer .wrongState s := if_pos other

theorem excludeEntries_getElem? (i : Nat) (results : List PointResult) (j : Nat) (e : PointResult) (at_j : results[j]? = some e) :
    (excludeEntries i results)[j]? = some (if i ≤ j ∧ e.outcome = .notRun then ⟨.excluded, e.method, 0, none, none, false⟩ else e) := by
  simp [excludeEntries, at_j, excludedEntry]

theorem membersChanged_taken (s : State) :
    membersChanged (s.setLink (takenLink s.link)) = (membersChanged s).setLink (takenLink (membersChanged s).link) := by
  have link : (membersChanged s).link = s.link := (membersChanged_frame s).2 .link (by decide)
  rw [membersChanged_setLink, link]

end Exclude

/-- Settles O24. -/
theorem excludeTakesAMemberOutOfTheRun : Obligations.ExcludeTakesAMemberOutOfTheRun := by
  intro b s take
  refine ⟨request_atPosition_outOfRange take, fun p at_p => ⟨fun other => ?_, fun active => ?_⟩⟩
  · exact request_atPosition_eq_answered take at_p (excludeAt_not_active (s := s.setLink (takenLink s.link)) other)
  · have accepted := excludeAt_active (s := s.setLink (takenLink s.link)) active
    refine ⟨excludeEntries s.run.index (getRec s p).results, memberOut p s, by simp [excludeEntries], excludeEntries_getElem? _ _, rfl,
      fun some => ?_, fun none => ⟨breakOff .emptied (memberOut p s),
      (breakOff .emptied (memberOut p s)).attn.atn, ?_, ?_, atnLaw_putAttn _ _⟩⟩
    · refine request_atPosition_eq_answered take at_p (accepted.trans (congrArg (answer .ok) ?_))
      exact (if_neg some).trans (membersChanged_taken (memberOut p s))
    · refine request_atPosition_eq_answered take at_p (accepted.trans (congrArg (answer .ok) ?_))
      exact if_pos none
    · exact breakOff_eq .emptied (memberOut p s)

end Sys2Proof.Machine
end

section
/-! PROOF. The plan's edits and the form of a point (R32 to R39, R201). -/

namespace Sys2Proof.Machine

/-! ## Edits (R33 to R37) -/

section Edits
variable {s : State} {code : Nat} {form : PointForm} {point : Point} {place : Byte} {st : Status}

theorem planRefusal_eq (s : State) : planRefusal s =
    if s.run.state ≠ .idle then some .busy
    else if ∃ p, (getRec s p).state = .passed ∨ (getRec s p).state = .failed then some .verdictsHeld
    else none := by
  have held : anyRec s (fun r => r.state = .passed || r.state = .failed) = true ↔
      ∃ p, (getRec s p).state = .passed ∨ (getRec s p).state = .failed := by
    rw [anyRec_iff]
    simp
  simp only [planRefusal, held]

theorem planRefusal_busy (busy : s.run.state ≠ .idle) : planRefusal s = some .busy := by
  rw [planRefusal_eq, if_pos busy]

theorem planRefusal_verdicts (free : ¬s.run.state ≠ .idle) (held : ∃ p, (getRec s p).state = .passed ∨ (getRec s p).state = .failed) :
    planRefusal s = some .verdictsHeld := by
  rw [planRefusal_eq, if_neg free, if_pos held]

theorem planRefusal_none (free : ¬s.run.state ≠ .idle) (none : ¬∃ p, (getRec s p).state = .passed ∨ (getRec s p).state = .failed) :
    planRefusal s = Option.none := by
  rw [planRefusal_eq, if_neg free, if_neg none]

theorem reqPlanClear_refused (h : planRefusal s = some st) : reqPlanClear s = answer st s := by simp only [reqPlanClear, h]

theorem reqPlanClear_open (h : planRefusal s = none) : reqPlanClear s = answer .ok (editPlan [] s) := by simp only [reqPlanClear, h]

theorem reqPlanTruncate_refused {n : Byte} (h : planRefusal s = some st) : reqPlanTruncate n s = answer st s := by
  simp only [reqPlanTruncate, h]

theorem reqPlanTruncate_open {n : Byte} (h : planRefusal s = none) : reqPlanTruncate n s =
    (editPlan (s.plan.take n.toNat) s,
      ⟨if s.plan.length < n.toNat then .clamped else .ok, [byte (min n.toNat s.plan.length)]⟩) := by
  simp only [reqPlanTruncate, h, List.length_take]

theorem reqPlanAppend_bad (h : pointOf form = none) : reqPlanAppend form s = answer .outOfRange s := by simp only [reqPlanAppend, h]

theorem reqPlanAppend_refused (fine : pointOf form = some point) (h : planRefusal s = some st) : reqPlanAppend form s = answer st s := by
  simp only [reqPlanAppend, fine, h]

theorem reqPlanAppend_open (fine : pointOf form = some point) (h : planRefusal s = none) : reqPlanAppend form s =
    if 16 ≤ s.plan.length then answer .outOfRange s else answer .ok (editPlan (s.plan ++ [point]) s) := by
  simp only [reqPlanAppend, fine, h]
  rfl

theorem reqPlanReplace_bad (h : pointOf form = none) : reqPlanReplace place form s = answer .outOfRange s := by
  simp only [reqPlanReplace, h]

theorem reqPlanReplace_beyond (high : 16 ≤ place.toNat) : reqPlanReplace place form s = answer .outOfRange s := by
  unfold reqPlanReplace
  split
  · rfl
  · exact if_pos high

theorem reqPlanReplace_refused (fine : pointOf form = some point) (low : place.toNat < 16) (h : planRefusal s = some st) :
    reqPlanReplace place form s = answer st s := by
  simp only [reqPlanReplace, fine, h]
  exact if_neg (Nat.not_le.mpr low)

theorem reqPlanReplace_open (fine : pointOf form = some point) (low : place.toNat < 16) (h : planRefusal s = none) :
    reqPlanReplace place form s = if s.plan.length ≤ place.toNat then answer .outOfRange s
      else answer .ok (editPlan (s.plan.set place.toNat point) s) := by
  simp only [reqPlanReplace, fine, h]
  exact if_neg (Nat.not_le.mpr low)

end Edits

/-- Settles O26: the checks in their order, and the edit itself once. -/
theorem planEditsAreCheckedAndEmptyTheOpenLists : Obligations.PlanEditsAreCheckedAndEmptyTheOpenLists := by
  intro how s take
  let u := s.setLink (takenLink s.link)
  have edit : ∀ plan : List Point, OnlyChanges [.plan, .table] s (editPlan plan s) ∧ (editPlan plan s).plan = plan ∧
      (editPlan plan s).table.index = s.table.index ∧ ∀ p, getRec (editPlan plan s) p =
        (if (getRec s p).state = .mounted ∨ (getRec s p).state = .ready then { getRec s p with results := [] } else getRec s p) :=
    fun plan => ⟨editPlan_frame s plan, rfl, rfl, fun p => getRec_mapRecs (s.setPlan plan) _ p⟩
  have busy : s.run.state ≠ .idle → planRefusal u = some .busy := planRefusal_busy (s := u)
  have held := planRefusal_verdicts (s := u)
  have open_ := planRefusal_none (s := u)
  refine ⟨⟨fun b => ?_, fun f v => ?_, fun f v => ⟨_, ?_, edit []⟩⟩,
    fun n => ⟨fun b => ?_, fun f v => ?_, fun f v => ⟨_, ?_, edit _⟩⟩, fun form => ⟨fun bad => ⟨?_, fun place => ?_⟩, fun point fine =>
      ⟨⟨fun b => ?_, fun f v => ?_, fun f v full => ?_, fun f v room => ⟨_, ?_, edit _⟩⟩, fun place =>
        ⟨fun beyond => ?_, fun low b => ?_, fun low f v => ?_, fun low f v vacant => ?_, fun low f v inside => ⟨_, ?_, edit _⟩⟩⟩⟩⟩
  · exact request_eq_answered_unchanged take (reqPlanClear_refused (busy b))
  · exact request_eq_answered_unchanged take (reqPlanClear_refused (held f v))
  · exact request_eq_answered take rfl (reqPlanClear_open (open_ f v))
  · exact request_eq_answered_unchanged take (reqPlanTruncate_refused (busy b))
  · exact request_eq_answered_unchanged take (reqPlanTruncate_refused (held f v))
  · exact request_eq_answered take rfl (reqPlanTruncate_open (open_ f v))
  · exact request_eq_answered_unchanged take (reqPlanAppend_bad (s := u) bad)
  · exact request_eq_answered_unchanged take (reqPlanReplace_bad (s := u) bad)
  · exact request_eq_answered_unchanged take (reqPlanAppend_refused fine (busy b))
  · exact request_eq_answered_unchanged take (reqPlanAppend_refused fine (held f v))
  · exact request_eq_answered_unchanged take ((reqPlanAppend_open fine (open_ f v)).trans (if_pos full))
  · exact request_eq_answered take rfl ((reqPlanAppend_open fine (open_ f v)).trans (if_neg (Nat.not_le.mpr room)))
  · exact request_eq_answered_unchanged take (reqPlanReplace_beyond (s := u) beyond)
  · exact request_eq_answered_unchanged take (reqPlanReplace_refused fine low (busy b))
  · exact request_eq_answered_unchanged take (reqPlanReplace_refused fine low (held f v))
  · exact request_eq_answered_unchanged take ((reqPlanReplace_open fine low (open_ f v)).trans (if_pos vacant))
  · exact request_eq_answered take rfl ((reqPlanReplace_open fine low (open_ f v)).trans (if_neg (Nat.not_le.mpr inside)))

/-! ## The form of a point (R32, R38, R201) -/

section Form
variable {f : PointForm}

/-- The fields every method shares are in range (R32). -/
def CommonOk (f : PointForm) : Prop := f.load.toNat ≤ 4095 ∧ f.settle.toNat ≤ 600000 ∧ f.pauseAfter.toNat ≤ 1

/-- The form carries an ERROR point in range (R32). -/
def ErrorOk (f : PointForm) : Prop :=
  f.method = 0 ∧ 1 ≤ f.n.toNat ∧ f.n.toNat ≤ 1000 ∧ 1 ≤ f.repetitions.toNat ∧ f.repetitions.toNat ≤ 8 ∧
    1 ≤ f.timeout.toNat ∧ f.timeout.toNat ≤ 3600 ∧ ∀ k, (f.limits.get k).1.toNat ≤ 999999 ∧ (f.limits.get k).2.toNat ≤ 999999

/-- The form carries a START point in range (R32). -/
def StartOk (f : PointForm) : Prop :=
  f.method = 1 ∧ 1 ≤ f.startWindow.toNat ∧ f.startWindow.toNat ≤ 3600 ∧ 1 ≤ f.required.toNat ∧ f.required.toNat ≤ 3

/-- The form carries a CREEP point in range (R32). -/
def CreepOk (f : PointForm) : Prop :=
  f.method = 2 ∧ 1 ≤ f.creepWindow.toNat ∧ f.creepWindow.toNat ≤ 3600 ∧ f.allowed.toNat ≤ 3

theorem commonOk_iff : (within 0 4095 f.load.toNat && within 0 600000 f.settle.toNat && within 0 1 f.pauseAfter.toNat) = true ↔
    CommonOk f := by
  simp [within, CommonOk, and_assoc]

theorem errorFields_iff : (within 1 1000 f.n.toNat && within 1 8 f.repetitions.toNat && within 1 3600 f.timeout.toNat &&
    f.limits.all (fun l => within 0 Config.ppmMax l.1.toNat && within 0 Config.ppmMax l.2.toNat)) = true ↔
      1 ≤ f.n.toNat ∧ f.n.toNat ≤ 1000 ∧ 1 ≤ f.repetitions.toNat ∧ f.repetitions.toNat ≤ 8 ∧
        1 ≤ f.timeout.toNat ∧ f.timeout.toNat ≤ 3600 ∧ ∀ k, (f.limits.get k).1.toNat ≤ 999999 ∧ (f.limits.get k).2.toNat ≤ 999999 := by
  simp only [Bool.and_eq_true, Tbl.all_iff, within_iff, Config.ppmMax, Nat.zero_le, true_and, and_assoc]

theorem pointBodyOf_error (h : ErrorOk f) : pointBodyOf f =
    some (.error f.n.toNat f.repetitions.toNat f.timeout.toNat (Tbl.ofFn fun k => ((f.limits.get k).1.toNat, (f.limits.get k).2.toNat))) := by
  obtain ⟨method, fields⟩ := h
  simp only [pointBodyOf, method]
  exact if_pos (errorFields_iff.mpr fields)

theorem pointBodyOf_start (h : StartOk f) : pointBodyOf f = some (.start f.startWindow.toNat f.required.toNat) := by
  obtain ⟨method, low, high, one, three⟩ := h
  simp only [pointBodyOf, method]
  exact if_pos (by simp [within, low, high, one, three])

theorem pointBodyOf_creep (h : CreepOk f) : pointBodyOf f = some (.creep f.creepWindow.toNat f.allowed.toNat) := by
  obtain ⟨method, low, high, three⟩ := h
  simp only [pointBodyOf, method]
  exact if_pos (by simp [within, low, high, three])

theorem pointBodyOf_bad (error : ¬ErrorOk f) (start : ¬StartOk f) (creep : ¬CreepOk f) : pointBodyOf f = none := by
  have at_method : ∀ n : Nat, f.method.toNat = n → f.method = BitVec.ofNat 8 n := fun n h => by
    rw [← h, BitVec.ofNat_toNat, BitVec.setWidth_eq]
  unfold pointBodyOf
  split
  · next method => exact if_neg fun fields => error ⟨at_method 0 method, errorFields_iff.mp fields⟩
  · next method =>
    refine if_neg fun fields => start ⟨at_method 1 method, ?_⟩
    simpa [within, and_assoc] using fields
  · next method =>
    refine if_neg fun fields => creep ⟨at_method 2 method, ?_⟩
    simpa [within, and_assoc] using fields
  · rfl

theorem pointOf_common (h : CommonOk f) : pointOf f = (pointBodyOf f).map fun body =>
    ⟨f.load.setWidth 12, f.settle.toNat, f.pauseAfter == 1, body⟩ := by
  rw [pointOf, if_pos (commonOk_iff.mpr h)]
  simp only [BitVec.ofNat_toNat]

theorem pointOf_bad (h : ¬(CommonOk f ∧ (ErrorOk f ∨ StartOk f ∨ CreepOk f))) : pointOf f = none := by
  by_cases common : CommonOk f
  · have bad := not_and.mp h common
    rw [not_or, not_or] at bad
    rw [pointOf_common common, pointBodyOf_bad bad.1 bad.2.1 bad.2.2]
    rfl
  · exact if_neg (mt commonOk_iff.mp common)

/-- The fields every method shares are returned as they were carried. -/
theorem common_returned (h : CommonOk f) : (f.load.setWidth 12).setWidth 16 = f.load ∧ BitVec.ofNat 32 f.settle.toNat = f.settle ∧
    byte (bit (f.pauseAfter == 1) 0) = f.pauseAfter := by
  obtain ⟨load, -, pause⟩ := h
  refine ⟨BitVec.eq_of_toNat_eq ?_, by simp, BitVec.eq_of_toNat_eq ?_⟩
  · simp
    omega
  · by_cases one : f.pauseAfter = 1#8
    · rw [one]
      rfl
    · have other : f.pauseAfter.toNat ≠ 1 := fun at_one => one (BitVec.eq_of_toNat_eq at_one)
      have zero : (f.pauseAfter == 1) = false := beq_false_of_ne one
      rw [zero]
      change 0 = f.pauseAfter.toNat
      omega

theorem formOfPoint_error (common : CommonOk f) (error : ErrorOk f) : formOfPoint ⟨f.load.setWidth 12, f.settle.toNat, f.pauseAfter == 1,
    .error f.n.toNat f.repetitions.toNat f.timeout.toNat (Tbl.ofFn fun k => ((f.limits.get k).1.toNat, (f.limits.get k).2.toNat))⟩ =
      { f with startWindow := 0, required := 0, creepWindow := 0, allowed := 0 } := by
  obtain ⟨load, settle, pause⟩ := common_returned common
  obtain ⟨method, -⟩ := error
  have limits : ((Tbl.ofFn fun k => ((f.limits.get k).1.toNat, (f.limits.get k).2.toNat) : Tbl 4 (Nat × Nat)).mapIdx fun _ l =>
      (BitVec.ofNat 24 l.1, BitVec.ofNat 24 l.2)) = f.limits := Tbl.ext fun k => by simp
  simp only [formOfPoint, zeroForm, load, settle, pause, method, limits, byte_toNat, BitVec.ofNat_toNat,
    BitVec.setWidth_eq]

theorem formOfPoint_start (common : CommonOk f) (start : StartOk f) : formOfPoint ⟨f.load.setWidth 12, f.settle.toNat, f.pauseAfter == 1,
    .start f.startWindow.toNat f.required.toNat⟩ = { f with
      n := 0, repetitions := 0, timeout := 0, limits := Tbl.fill 4 (0, 0), creepWindow := 0, allowed := 0 } := by
  obtain ⟨load, settle, pause⟩ := common_returned common
  obtain ⟨method, -⟩ := start
  simp only [formOfPoint, zeroForm, load, settle, pause, method, byte_toNat, BitVec.ofNat_toNat,
    BitVec.setWidth_eq]

theorem formOfPoint_creep (common : CommonOk f) (creep : CreepOk f) : formOfPoint ⟨f.load.setWidth 12, f.settle.toNat, f.pauseAfter == 1,
    .creep f.creepWindow.toNat f.allowed.toNat⟩ = { f with
      n := 0, repetitions := 0, timeout := 0, limits := Tbl.fill 4 (0, 0), startWindow := 0, required := 0 } := by
  obtain ⟨load, settle, pause⟩ := common_returned common
  obtain ⟨method, -⟩ := creep
  simp only [formOfPoint, zeroForm, load, settle, pause, method, byte_toNat, BitVec.ofNat_toNat,
    BitVec.setWidth_eq]

theorem pointFormBytes_zeroForm : pointFormBytes zeroForm = List.replicate 43 0 := by decide

end Form

/-- Settles O27. -/
theorem aPointIsStoredAsCarriedAndReadBack : Obligations.APointIsStoredAsCarriedAndReadBack := by
  refine ⟨fun f => ⟨pointFormBytes_length f, fieldAt_pointFormBytes f⟩, fun f => ⟨fun bad => pointOf_bad bad, fun body =>
    ⟨fun ⟨common, error⟩ at_body => ?_, fun ⟨common, start⟩ at_body => ?_, fun ⟨common, creep⟩ at_body => ?_⟩⟩,
    fun place s take => ⟨fun beyond => ?_, fun low vacant => ?_, fun point low stored => ?_⟩⟩
  · subst at_body
    exact ⟨_, by rw [pointOf_common common, pointBodyOf_error error]; rfl, rfl, formOfPoint_error common error⟩
  · subst at_body
    exact ⟨_, by rw [pointOf_common common, pointBodyOf_start start]; rfl, rfl, formOfPoint_start common start⟩
  · subst at_body
    exact ⟨_, by rw [pointOf_common common, pointBodyOf_creep creep]; rfl, rfl, formOfPoint_creep common creep⟩
  · exact request_addressed_eq_answered take (if_pos beyond)
  · refine request_addressed_eq_answered take ((if_neg (Nat.not_le.mpr low)).trans ?_)
    simp only [State.setLink_plan, List.getElem?_eq_none vacant, pointFormBytes_zeroForm]
    rfl
  · refine request_addressed_eq_answered take ((if_neg (Nat.not_le.mpr low)).trans ?_)
    simp only [State.setLink_plan, stored]
    rfl

end Sys2Proof.Machine
end

section
/-! PROOF. The course of a run: the source handshake, the measurement of a point, its end, and the cascade (R93 to R100, R112 to R118). -/

namespace Sys2Proof.Machine

section Lines
variable {s : State} {f : Filter} {level : Bool}

theorem isDue_of_due {t : Option Timer} (due : Due t) : isDue t = true := (isDue_iff t).mpr due

/-- A confirmed change can come before the line's first reading, and to a level it does not hold (log 4, log 30). -/
theorem canChange_of (h : f.seeded = false ∨ f.level = !level) : canChange f level = true := by
  rcases h with unseeded | other
  · simp [canChange, unseeded]
  · cases level <;> simp_all [canChange]

theorem lineEvent_of {effect : State → State} (h : f.seeded = false ∨ f.level = !level) : lineEvent f level effect s = effect s :=
  if_pos (canChange_of h)

theorem cascadeEvent_solo {effect : State → State} (role : s.straps.role = .solo) : cascadeEvent f level effect s = s := if_pos role

theorem cascadeEvent_of {effect : State → State} (role : s.straps.role ≠ .solo) (h : f.seeded = false ∨ f.level = !level) :
    cascadeEvent f level effect s = effect s := (if_neg role).trans (lineEvent_of h)

end Lines

/-! ## The source handshake (R93 to R97) -/

section Handshake
variable {s : State} {point : Point}

theorem enterSourcing_of_point (h : s.plan[s.run.index]? = some point) : enterSourcing s =
    if s.settings.srcLatency = 0 then lookAtSource (s.setRun { s.run with
        state := .sourcing .latency, load := point.load, source := startTimer (s.settings.srcTimeout * 1000) })
    else s.setRun { s.run with
      state := .sourcing .latency, load := point.load, source := startTimer (s.settings.srcTimeout * 1000)
      latency := startTimer s.settings.srcLatency } := by
  have current : currentPoint s = some point := h
  simp only [enterSourcing, current]

theorem enterSettling_of_point (h : s.plan[s.run.index]? = some point) : enterSettling s =
    if point.settle = 0 then settleOver (s.setRun { s.run with state := .settling, latency := none, source := none })
    else s.setRun { s.run with state := .settling, latency := none, source := none, settle := startTimer point.settle } := by
  have current : currentPoint s = some point := h
  simp only [enterSettling, current]

theorem sourceExpiry_due {stage : Sourcing} (due : Due s.run.source) (state : s.run.state = .sourcing stage) :
    sourceExpiry s = faultAbort sourceTimeoutKind s := by
  simp only [sourceExpiry, state, isDue_of_due due, if_true]

theorem srcReadyFall_eq (role : s.straps.role ≠ .slave) : srcReadyFall s =
    match s.run.state with
    | .settling => s.setRun { s.run with
        srcReady := confirmed false, state := .sourcing .awaitReady, settle := none, source := startTimer (s.settings.srcTimeout * 1000) }
    | .measuring => faultAbort sourceLostKind (s.setRun { s.run with srcReady := confirmed false })
    | _ => s.setRun { s.run with srcReady := confirmed false } := if_neg role

theorem srcReadyFall_unheeded (h : s.straps.role = .slave ∨ s.run.state ≠ .settling ∧ s.run.state ≠ .measuring) :
    srcReadyFall s = s.setRun { s.run with srcReady := confirmed false } := by
  unfold srcReadyFall
  simp only
  split
  · rfl
  · next role =>
    obtain ⟨settling, measuring⟩ := h.resolve_left role
    split
    · next state => exact absurd state settling
    · next state => exact absurd state measuring
    · rfl

end Handshake

/-- Settles O31. -/
theorem theSourceHandshakeLeadsToMeasuring : Obligations.TheSourceHandshakeLeadsToMeasuring := by
  intro s
  refine ⟨fun point at_index => ⟨fun some => ?_, fun none => ?_, fun some => ?_, fun none => ?_⟩, ?_, fun due state => ?_,
    fun due state => ?_, fun stage due state => ?_, fun change => ⟨fun role state => ?_, fun other => ?_⟩,
    fun change => ⟨fun role state => ?_, fun role state => ?_, fun other => ?_⟩⟩
  · exact (enterSourcing_of_point at_index).trans (if_neg some)
  · exact (enterSourcing_of_point at_index).trans (if_pos none)
  · exact (enterSettling_of_point at_index).trans (if_neg some)
  · exact (enterSettling_of_point at_index).trans (if_pos none)
  · simp only [settleOver, State.setRun_straps, State.setRun_run, Option.isSome_iff_ne_none]
    rfl
  · exact congrArg Host.Outcome.next (if_pos ⟨isDue_of_due due, state⟩)
  · exact congrArg Host.Outcome.next (if_pos ⟨isDue_of_due due, state⟩)
  · exact congrArg Host.Outcome.next (sourceExpiry_due due state)
  · exact congrArg Host.Outcome.next ((lineEvent_of change).trans (if_pos ⟨role, state⟩))
  · exact congrArg Host.Outcome.next ((lineEvent_of change).trans (if_neg fun ⟨role, state⟩ => other.elim role (· state)))
  · refine congrArg Host.Outcome.next ((lineEvent_of change).trans ((srcReadyFall_eq role).trans ?_))
    rw [state]
    rfl
  · refine congrArg Host.Outcome.next ((lineEvent_of change).trans ((srcReadyFall_eq role).trans ?_))
    rw [state]
    rfl
  · exact congrArg Host.Outcome.next ((lineEvent_of change).trans (srcReadyFall_unheeded other))

/-! ## Measuring (R61, R97, R113, R116) -/

theorem enterMeasuring_of_point {s : State} {point : Point} (h : s.plan[s.run.index]? = some point) : enterMeasuring s =
    match s.straps.role with
    | .solo => (startMeasurement point s).setRun { s.run with state := .measuring, measured := true, settle := none, done := 0 }
    | .master => (startMeasurement point s).setRun { s.run with
        state := .measuring, measured := true, settle := none, done := 0, phaseHigh := true
        guard := startTimer (point.body.durationMs + Config.guardExtraMs), holdOff := startTimer Config.holdOffMs }
    | .slave => (startMeasurement point s).setRun { s.run with
        state := .measuring, measured := true, settle := none, done := 0, doneLow := true } := by
  have current : currentPoint s = some point := h
  simp only [enterMeasuring, current]
  rfl

theorem enterMeasuring_shape {s : State} {point : Point} (h : s.plan[s.run.index]? = some point) :
    ∃ run, enterMeasuring s = (startMeasurement point s).setRun run := by
  rw [enterMeasuring_of_point h]
  cases s.straps.role with
  | solo | master | slave => exact ⟨_, rfl⟩

/-- Settles O32. -/
theorem enteringMeasuringStartsThePoint : Obligations.EnteringMeasuringStartsThePoint := by
  intro s point at_index length error start creep
  have lasts : point.body.durationMs = length := by
    cases body : point.body with
    | error n reps timeout limits => exact (error _ _ _ _ body).symm
    | start window required => exact (start _ _ body).symm
    | creep window allowed => exact (creep _ _ body).symm
  have entered := enterMeasuring_of_point at_index
  obtain ⟨run, shape⟩ := enterMeasuring_shape at_index
  refine ⟨enterMeasuring_frame s, ?_, fun p => ?_, ?_, fun role => ?_, fun role => ?_, fun role => ?_⟩
  · rw [shape]
    rfl
  · rw [shape]
    exact getRec_mapRecs s (fun _ r => if r.state = .active then { r with context := some freshContext } else r) p
  · rw [shape, ← lasts]
    rfl
  · rw [entered, role]
    rfl
  · rw [entered, role, ← lasts]
    rfl
  · rw [entered, role]
    rfl

/-! ## The end of a point and of the run (R97 to R100, R114, R117) -/

section Ends
variable {s : State} {point : Point} {p : Pos}

/-- The point-end condition of a SOLO or a MASTER (R97, R114). -/
def PointEnds (s : State) : Prop :=
  s.run.state = .measuring ∧ s.run.done = s.run.members ∧
    (s.straps.role = .master → s.run.holdOff = none ∧ s.run.doneLine.level = true)

theorem pointEndHolds_iff (role : s.straps.role ≠ .slave) : pointEndHolds s = true ↔ PointEnds s := by
  unfold pointEndHolds PointEnds
  cases at_role : s.straps.role with
  | slave => exact absurd at_role role
  | solo => simp
  | master => simp [and_assoc]

theorem membersChanged_slave (role : s.straps.role = .slave) : membersChanged s = s.setRun { s.run with
    doneLow := decide (s.run.state = .measuring ∧ s.run.done ≠ s.run.members) } := by
  have drive : (decide (s.run.state = .measuring) && s.run.done != s.run.members) =
      decide (s.run.state = .measuring ∧ s.run.done ≠ s.run.members) := by
    rw [Bool.eq_iff_iff]
    simp
  simp only [membersChanged, role, drive]

theorem membersChanged_others (role : s.straps.role ≠ .slave) :
    membersChanged s = if pointEndHolds s then endPoint (stopEngine s) else s := by
  unfold membersChanged
  split
  · next slave => exact absurd slave role
  · rfl

theorem has_shortMembers : (shortMembers s).has p = true ↔ s.run.members.has p = true ∧
    ∀ e, (getRec s p).results[s.run.index]? = some e → e.outcome ≠ .pass := by
  rw [shortMembers, PosSet.has_ofPred, Bool.and_eq_true]
  refine and_congr_right fun _ => ?_
  cases (getRec s p).results[s.run.index]? <;> simp

theorem endPoint_eq (s : State) : endPoint s = afterPoint (raisePointEnd s.run.index (shortMembers s) { s with run := { s.run with
    guard := none, holdOff := none, phaseLow := if s.run.phaseHigh then some ⟨3, 3⟩ else s.run.phaseLow, phaseHigh := false } }) := by
  unfold endPoint
  simp only
  rw [lowerPhase_eq]
  rfl

theorem afterPoint_last (last : s.plan.length ≤ s.run.index + 1) : afterPoint s = completeRun s := if_pos (decide_eq_true last)

theorem afterPoint_pauses (more : s.run.index + 1 < s.plan.length) (at_index : s.plan[s.run.index]? = some point)
    (pauses : point.pauseAfter = true ∨ s.run.hold = true) : afterPoint s = s.setRun { s.run with state := .held, hold := false } := by
  have current : currentPoint s = some point := at_index
  refine (if_neg (by simpa [atLastPoint] using more)).trans (if_pos ?_)
  simpa [current] using pauses

theorem afterPoint_goes_on (more : s.run.index + 1 < s.plan.length) (at_index : s.plan[s.run.index]? = some point)
    (pause : point.pauseAfter = false) (hold : s.run.hold = false) : afterPoint s = enterSourcing (s.setRun (nextPoint s.run)) := by
  have current : currentPoint s = some point := at_index
  refine (if_neg (by simpa [atLastPoint] using more)).trans (if_neg ?_)
  simp [current, pause, hold]

theorem getRec_formVerdicts (p : Pos) : getRec (formVerdicts s) p = (if s.run.members.has p then { getRec s p with
    state := if ∀ e ∈ (getRec s p).results, e.outcome = .pass then .passed else .failed, context := none } else getRec s p) := by
  simp only [formVerdicts, getRec_mapRecs, List.all_eq_true, decide_eq_true_eq]

end Ends

/-- Settles O33. -/
theorem aPointEndsWhenEveryMemberIsDone : Obligations.APointEndsWhenEveryMemberIsDone := by
  intro s
  refine ⟨membersChanged_slave, fun role goes_on => ?_, fun role ends => ?_, ⟨shortMembers s, fun p => has_shortMembers, fun last => ?_,
    fun point at_index more => ⟨fun pauses => ?_, fun pause hold => ?_⟩⟩, ?_⟩
  · exact (membersChanged_others role).trans (if_neg (mt (pointEndHolds_iff role).mp goes_on))
  · exact (membersChanged_others role).trans (if_pos ((pointEndHolds_iff role).mpr ends))
  · exact (endPoint_eq s).trans (afterPoint_last last)
  · exact (endPoint_eq s).trans (afterPoint_pauses more at_index pauses)
  · exact (endPoint_eq s).trans (afterPoint_goes_on more at_index pause hold)
  · exact ⟨_, rfl, (formVerdicts_frame s).comp (setRun_frame _ _), rfl, fun p => getRec_formVerdicts p, rfl⟩

/-! ## The cascade (R112 to R118) -/

section Cascade
variable {s : State} {point : Point} {p : Pos} {c : Context}

theorem phaseLowEnd_due (due : Due s.run.phaseLow) : phaseLowEnd s =
    if s.straps.role = .master ∧ s.run.state = .settling ∧ s.run.settle = none then
      enterMeasuring (s.setRun { s.run with phaseLow := none })
    else s.setRun { s.run with phaseLow := none } := if_pos (isDue_of_due due)

end Cascade

/-- Settles O34. -/
theorem theMasterWaitsOnDoneUnderAGuard : Obligations.TheMasterWaitsOnDoneUnderAGuard := by
  intro s
  have not_solo : s.straps.role = .master ∨ s.straps.role = .slave → s.straps.role ≠ .solo := by
    rintro (role | role) <;> simp [role]
  refine ⟨fun due => ⟨fun role state settle => ?_, fun other => ?_⟩, fun due state => ?_, fun due state => ?_,
    ⟨fun solo => ?_, fun change => ⟨fun master => ?_, fun slave => ?_⟩⟩, fun solo => ?_, fun role change => ?_⟩
  · exact congrArg Host.Outcome.next ((phaseLowEnd_due due).trans (if_pos ⟨role, state, settle⟩))
  · refine congrArg Host.Outcome.next ((phaseLowEnd_due due).trans (if_neg fun ⟨role, state, settle⟩ => ?_))
    exact other.elim (· role) (·.elim (· state) (· settle))
  · exact congrArg Host.Outcome.next (if_pos ⟨isDue_of_due due, state⟩)
  · exact congrArg Host.Outcome.next (if_pos ⟨isDue_of_due due, state⟩)
  · exact congrArg Host.Outcome.next (cascadeEvent_solo solo)
  · exact congrArg Host.Outcome.next ((cascadeEvent_of (s := readDone true s) (not_solo (.inl master)) change).trans (if_pos master))
  · exact congrArg Host.Outcome.next ((cascadeEvent_of (s := readDone true s) (not_solo (.inr slave)) change).trans
      (if_neg fun master => by simp [readDone, slave] at master))
  · exact congrArg Host.Outcome.next (cascadeEvent_solo solo)
  · exact congrArg Host.Outcome.next (cascadeEvent_of (s := readDone false s) role change)

section Slave
variable {s : State} {point : Point} {p : Pos} {c : Context}

theorem finishMember_open {i : Nat} {result : Context → PointResult} {r : Record} (active : r.state = .active) (context : r.context = some c)
    (open_ : c.phase ≠ .done) :
    finishMember i result r = { r with results := r.results.set i (result c), context := some { c with phase := .done } } := by
  simp only [finishMember, context]
  exact if_pos ⟨active, open_⟩

theorem finishMember_other {i : Nat} {result : Context → PointResult} {r : Record}
    (h : r.state ≠ .active ∨ r.context = none ∨ ∃ c, r.context = some c ∧ c.phase = .done) : finishMember i result r = r := by
  unfold finishMember
  split
  · next c context =>
    refine if_neg fun ⟨active, open_⟩ => ?_
    rcases h with other | none | ⟨d, at_d, done⟩
    · exact other active
    · simp [context] at none
    · rw [context] at at_d
      cases at_d
      exact open_ done
  · rfl

theorem cutMeasurement_of_point (h : s.plan[s.run.index]? = some point) :
    cutMeasurement s = stopEngine (mapRecs (fun _ => finishMember s.run.index (cutResult point.body)) s) := by
  have current : currentPoint s = some point := h
  simp only [cutMeasurement, current]

theorem getRec_cutMeasurement (h : s.plan[s.run.index]? = some point) (p : Pos) :
    getRec (cutMeasurement s) p = finishMember s.run.index (cutResult point.body) (getRec s p) := by
  rw [cutMeasurement_of_point h]
  exact getRec_mapRecs s (fun _ => finishMember s.run.index (cutResult point.body)) p

theorem cutResult_eq (body : PointBody) (c : Context) : cutResult body c = match body with
    | .error .. => errorResult .cut c
    | .start .. => ⟨.cut, .start, 0, some c.pulses, none, false⟩
    | .creep .. => ⟨.cut, .creep, 0, some c.pulses, none, false⟩ := by
  cases body <;> rfl

/-- The end of a SLAVE's point, whose index and plan the cut leaves (R118). -/
theorem slavePointEnd_eq (s : State) : slavePointEnd s =
    if s.plan.length ≤ s.run.index + 1 then completeRun (raisePointEnd s.run.index (shortMembers (cutMeasurement s)) (cutMeasurement s))
    else (raisePointEnd s.run.index (shortMembers (cutMeasurement s)) (cutMeasurement s)).setRun
      { (cutMeasurement s).run with state := .following, index := s.run.index + 1, measured := false } := by
  have index : (cutMeasurement s).run.index = s.run.index := by rw [cutMeasurement_run]
  have plan : (cutMeasurement s).plan = s.plan := (cutMeasurement_frame s).2 .plan (by decide)
  rw [← index, ← plan]
  unfold slavePointEnd
  simp only [atLastPoint, decide_eq_true_eq]
  rfl

end Slave

/-- Settles O35. -/
theorem theSlaveMeasuresWhilePhaseIsHigh : Obligations.TheSlaveMeasuresWhilePhaseIsHigh := by
  intro s
  have not_solo : s.straps.role = .master ∨ s.straps.role = .slave → s.straps.role ≠ .solo := by
    rintro (role | role) <;> simp [role]
  have other_role : ∀ {state : RunState}, s.straps.role = .master ∨ s.straps.role = .slave ∧ s.run.state ≠ state →
      s.straps.role ≠ .solo ∧ ¬(s.straps.role = .slave ∧ s.run.state = state) := by
    rintro state (role | ⟨role, other⟩) <;> simp_all
  refine ⟨fun point at_index => ⟨cutMeasurement_frame s, ?_, ?_, cutMeasurement_run s, fun p => ⟨fun c active context open_ => ?_,
    fun other => ?_⟩⟩, ⟨fun solo => ?_, fun change => ⟨fun slave state => ?_, fun other => ?_⟩⟩, fun solo => ?_,
    fun change => ⟨fun other => ?_, fun slave state => ?_⟩⟩
  · exact congrArg (·.table.index) (cutMeasurement_of_point at_index)
  · exact congrArg State.engine (cutMeasurement_of_point at_index)
  · have cut := (getRec_cutMeasurement at_index p).trans (finishMember_open active context open_)
    rw [cutResult_eq] at cut
    exact cut
  · rw [getRec_cutMeasurement at_index, finishMember_other other]
  · exact congrArg Host.Outcome.next (cascadeEvent_solo solo)
  · exact congrArg Host.Outcome.next ((cascadeEvent_of (s := readPhase true s) (not_solo (.inr slave)) change).trans (if_pos ⟨slave, state⟩))
  · obtain ⟨role, waits⟩ := other_role other
    exact congrArg Host.Outcome.next ((cascadeEvent_of (s := readPhase true s) role change).trans (if_neg waits))
  · exact congrArg Host.Outcome.next (cascadeEvent_solo solo)
  · obtain ⟨role, waits⟩ := other_role other
    exact congrArg Host.Outcome.next ((cascadeEvent_of (s := readPhase false s) role change).trans (if_neg waits))
  · have fall : exec .phaseFall s = .next (slavePointEnd { s with run := { s.run with
        phaseLine := ⟨false, false, true⟩, phaseReading := false } }) :=
      congrArg Host.Outcome.next ((cascadeEvent_of (s := readPhase false s) (not_solo (.inr slave)) change).trans (if_pos ⟨slave, state⟩))
    generalize down_eq : ({ s with run := { s.run with phaseLine := ⟨false, false, true⟩, phaseReading := false } } : State) = down at fall ⊢
    have run : down.run = { s.run with phaseLine := ⟨false, false, true⟩, phaseReading := false } := by rw [← down_eq]
    have plan : down.plan = s.plan := by rw [← down_eq]
    have cut_run := cutMeasurement_run down
    have ending := slavePointEnd_eq down
    rw [run] at cut_run ending
    rw [plan] at ending
    refine ⟨shortMembers (cutMeasurement down), fun p => ?_, fun last => ?_, fun more => ?_⟩
    · rw [has_shortMembers, cut_run]
    · rw [fall, ending, if_pos last]
    · rw [fall, ending, if_neg (Nat.not_le.mpr more)]
      rfl

end Sys2Proof.Machine
end

section
/-! PROOF. The roll slots and the closure unit, request by request and expiry by expiry (R126, R134, R142 to R158). -/

namespace Sys2Proof.Machine

/-! ## ROLL_LOAD (R126) -/

section RollLoad
variable {s : State} {slot : Byte} {first last : BitVec 32} {i : Fin 4} {lo hi : Nat}

/-- The numbers are no range of tags (R126). -/
def RangeBad (first last : BitVec 32) : Prop := first = 0 ∨ 999999999 < last.toNat ∨ last.toNat < first.toNat

theorem rangeBad_iff : RangeBad first last ↔ first.toNat = 0 ∨ Config.tagMax < last.toNat ∨ last.toNat < first.toNat := by
  have zero : first = 0 ↔ first.toNat = 0 := BitVec.toNat_inj.symm
  rw [RangeBad, zero]
  rfl

theorem reqRollLoad_outOfRange (h : 3 < slot.toNat ∨ RangeBad first last) : reqRollLoad slot first last s = answer .outOfRange s := by
  unfold reqRollLoad
  split
  · rfl
  · next i at_i =>
    refine if_pos (rangeBad_iff.mp (h.resolve_left fun high => ?_))
    rw [slotOfByte_eq_none high] at at_i
    cases at_i

theorem reqRollLoad_eq (at_i : slot.toNat = i.val) (fine : ¬RangeBad first last) : reqRollLoad slot first last s =
    if isLoaded (s.stock.get i) then answer .busy s
    else if s.stock.any (undrawnMeets first.toNat last.toNat) ∨ someHeld s first.toNat last.toNat then answer .overlap s
    else answerOk (slot :: slotRecord (.loaded first.toNat last.toNat first.toNat))
      (s.setStock (s.stock.set i (.loaded first.toNat last.toNat first.toNat))) := by
  simp only [reqRollLoad, slotOfByte_eq_some at_i]
  refine (if_neg (mt rangeBad_iff.mpr fine)).trans ?_
  split
  · rfl
  · split_ifs <;> simp_all

/-- Some undrawn number lies in the range: the slot's next one, or the range's first (R126). -/
theorem undrawnMeets_iff {slot : RollSlot} (ok : slotOk slot) (rising : lo ≤ hi) :
    undrawnMeets lo hi slot = true ↔ ∃ n, lo ≤ n ∧ n ≤ hi ∧ undrawnIn n slot := by
  constructor
  · intro meets
    cases slot with
    | loaded first last next =>
      obtain ⟨-, -, inside, -⟩ := ok
      simp only [undrawnMeets, Bool.and_eq_true, decide_eq_true_eq] at meets
      exact ⟨max lo next, le_max_left .., by omega, le_max_right .., by omega⟩
    | empty | exhausted => cases meets
  · rintro ⟨n, low, high, undrawn⟩
    exact undrawnIn_meets low high undrawn

theorem someHeld_iff : someHeld s lo hi = true ↔ ∃ n, lo ≤ n ∧ n ≤ hi ∧ isHeld s n := by
  constructor
  · intro held
    rw [someHeld, Bool.or_eq_true, anyRec_iff] at held
    rcases held with ⟨p, on⟩ | pressed
    · simp only [recordHolds, Bool.or_eq_true, Option.any_eq_true, within_iff] at on
      rcases on with ⟨tag, closed, low, high⟩ | ⟨n, spoiled, low, high⟩
      · exact ⟨tag.number, low, high, .inl ⟨p, .inl ⟨tag, closed, rfl⟩⟩⟩
      · exact ⟨n, low, high, .inl ⟨p, .inr spoiled⟩⟩
    · simp only [Option.any_eq_true, within_iff] at pressed
      obtain ⟨n, pressed, low, high⟩ := pressed
      exact ⟨n, low, high, .inr pressed⟩
  · rintro ⟨n, low, high, held⟩
    exact isHeld_someHeld low high held

theorem inUse_iff (ok : ∀ i, slotOk (s.stock.get i)) (rising : lo ≤ hi) :
    (s.stock.any (undrawnMeets lo hi) = true ∨ someHeld s lo hi = true) ↔
      ∃ n, lo ≤ n ∧ n ≤ hi ∧ ((∃ j, undrawnIn n (s.stock.get j)) ∨ isHeld s n) := by
  rw [Tbl.any_iff, someHeld_iff]
  constructor
  · rintro (⟨j, meets⟩ | ⟨n, low, high, held⟩)
    · obtain ⟨n, low, high, undrawn⟩ := (undrawnMeets_iff (ok j) rising).mp meets
      exact ⟨n, low, high, .inl ⟨j, undrawn⟩⟩
    · exact ⟨n, low, high, .inr held⟩
  · rintro ⟨n, low, high, ⟨j, undrawn⟩ | held⟩
    · exact .inl ⟨j, undrawnIn_meets low high undrawn⟩
    · exact .inr ⟨n, low, high, held⟩

end RollLoad

/-- Settles O36. -/
theorem rollLoadRefusesNumbersInUse : Obligations.RollLoadRefusesNumbersInUse := by
  intro b first last s take ok
  refine ⟨fun bad => ?_, fun i at_i fine => ?_⟩
  · exact request_addressed_eq_answered take (reqRollLoad_outOfRange (s := s.setLink (takenLink s.link)) bad)
  · have eq := reqRollLoad_eq (s := s.setLink (takenLink s.link)) at_i fine
    have rising : first.toNat ≤ last.toNat := not_lt.mp fun falls => fine (.inr (.inr falls))
    have inUse := inUse_iff (s := s.setLink (takenLink s.link)) ok rising
    refine ⟨fun loaded => ?_, fun free => ⟨fun used => ?_, fun unused => ?_⟩⟩
    · exact request_addressed_eq_answered take (eq.trans (if_pos ((isLoaded_iff _).mpr loaded)))
    · exact request_addressed_eq_answered take (eq.trans ((if_neg (mt (isLoaded_iff _).mp free)).trans (if_pos (inUse.mpr used))))
    · refine request_addressed_eq_answered take (eq.trans ((if_neg (mt (isLoaded_iff _).mp free)).trans
        ((if_neg (mt inUse.mp unused)).trans ?_)))
      rfl

/-! ## CLOSE (R134) -/

section Close
variable {s : State} {p : Pos}

theorem pressLocation_eq (v : Settings) (p : Pos) :
    pressLocation v p = v.homeOffset + (if v.orient = .normal then p.val else 47 - p.val) * v.pitch := by
  unfold pressLocation slotOf
  cases v.orient with
  | normal => rfl
  | mirrored => simp

/-- Service looks at the link only for whether a CLOSE_CANCEL could be taken. -/
theorem serve_taken (take : CanTake s) : serve (s.setLink (takenLink s.link)) = (serve s).setLink (takenLink (serve s).link) := by
  have link : (serve s).link = s.link := (serve_frame s).2 .link (by decide)
  rw [serve_setLink s (takenLink s.link) (iff_of_false nofun take), link]

theorem exec_close {t : State} {st : Status} {b : Byte} (take : CanTake s) (at_p : b.toNat = p.val)
    (h : closePosition p (s.setLink (takenLink s.link)) = (t.setLink (takenLink t.link), st)) :
    exec (.close .addressed b) s = answered .addressed st [] t :=
  request_atPosition_eq_answered take at_p (congrArg (fun r : State × Status => answer r.2 r.1) h)

theorem closePosition_refused {st : Status} (h : closeRefusal p s = some st) : closePosition p s = (s, st) := by
  simp only [closePosition, h]

theorem closePosition_open (h : closeRefusal p s = none) : closePosition p s =
    (serve ((putRec s p { getRec s p with state := .closing }).setClosure { s.closure with queue := s.closure.queue ++ [p] }), .ok) := by
  simp only [closePosition, h]
  rfl

theorem closeRefusal_closing (h : (getRec s p).state = .closing) : closeRefusal p s = some .duplicate := if_pos h

theorem closeRefusal_wrongState (closing : (getRec s p).state ≠ .closing) (passed : (getRec s p).state ≠ .passed) :
    closeRefusal p s = some .wrongState := (if_neg closing).trans (if_pos passed)

theorem closeRefusal_passed (h : (getRec s p).state = .passed) : closeRefusal p s =
    if (getRec s p).spoiled.isSome then some .unreported
    else if s.settings.travel < pressLocation s.settings p then some .outOfReach
    else if remaining s.stock ≤ reservations s.closure then some .noStock
    else none := (if_neg (by simp [h])).trans (if_neg (not_not_intro h))

end Close

/-- Settles O39. -/
theorem closeAppendsToTheQueue : Obligations.CloseAppendsToTheQueue := by
  intro b s take
  refine ⟨request_atPosition_outOfRange take, fun p at_p => ⟨fun closing => ?_, fun passed spoiled => ?_, fun closing passed => ?_,
    fun passed unspoiled => ?_⟩⟩
  · exact exec_close take at_p (closePosition_refused (s := s.setLink (takenLink s.link)) (closeRefusal_closing closing))
  · refine exec_close take at_p (closePosition_refused (s := s.setLink (takenLink s.link)) ((closeRefusal_passed passed).trans (if_pos ?_)))
    exact Option.isSome_iff_ne_none.mpr spoiled
  · exact exec_close take at_p (closePosition_refused (s := s.setLink (takenLink s.link)) (closeRefusal_wrongState closing passed))
  · have none_spoiled : ¬(getRec s p).spoiled.isSome = true := by simp [unspoiled]
    have refusal := (closeRefusal_passed (s := s.setLink (takenLink s.link)) passed).trans (if_neg none_spoiled)
    rw [← pressLocation_eq]
    refine ⟨fun far => ?_, fun near empty => ?_, fun near room => ?_⟩
    · exact exec_close take at_p (closePosition_refused (refusal.trans (if_pos far)))
    · exact exec_close take at_p (closePosition_refused (refusal.trans ((if_neg (not_lt.mpr near)).trans (if_pos empty))))
    · refine exec_close take at_p ((closePosition_open (refusal.trans ((if_neg (not_lt.mpr near)).trans (if_neg (not_le.mpr room))))).trans ?_)
      exact congrArg (·, Status.ok) (serve_taken (s := (putRec s p { getRec s p with state := .closing }).setClosure
        { s.closure with queue := s.closure.queue ++ [p] }) take)

/-! ## Moves (R145 to R152) -/

section Moves
variable {s : State} {p : Pos} {rest : List Pos}

theorem serve_not_begun (h : s.closure.unit ≠ .idle ∨ s.closure.queue = [] ∨ CancelTogether s) : serve s = s := by
  rcases h with busy | empty | together
  · unfold serve
    split
    · next idle _ => exact absurd idle busy
    · rfl
  · unfold serve
    split
    · next queue => rw [empty] at queue; cases queue
    · rfl
  · exact serve_of_cancelTogether s together

theorem distance_eq (a b : Nat) : distance a b = if b < a then a - b else b - a := by
  unfold distance
  split <;> omega

/-- The move to the head entry (R146, R150). -/
def headMove (s : State) (p : Pos) : Move := planMove s.settings s.closure.stepCount (pressLocation s.settings p)

theorem serve_begun (idle : s.closure.unit = .idle) (queue : s.closure.queue = p :: rest) (alone : ¬CancelTogether s) :
    serve s = if (headMove s p).length = 0 then arrive (headMove s p) s else takeStep (headMove s p) s := by
  have no_cancel : ¬cancelWaits s = true := mt (cancelWaits_iff s).mp alone
  simp only [serve, idle, queue]
  exact if_neg no_cancel

theorem patternSize_eq (e : Excitation) : patternSize e = if e = .full then 4 else 8 := by cases e <;> rfl

theorem takeStep_eq (m : Move) (s : State) : takeStep m s = s.setClosure { s.closure with
    unit := .moving { m with taken := m.taken + 1 }
    stepCount := if m.forward then s.closure.stepCount + 1 else s.closure.stepCount - 1
    exIndex := if m.forward then (s.closure.exIndex + 1) % (if s.settings.excitation = .full then 4 else 8)
      else (s.closure.exIndex + (if s.settings.excitation = .full then 4 else 8) - 1) % if s.settings.excitation = .full then 4 else 8
    stepTimer := startTimer (if m.taken + 1 ≤ m.startRamp ∨ m.length < m.taken + 1 + m.stopRamp then s.settings.stepStart
      else s.settings.stepRun) } := by
  simp only [← patternSize_eq]
  rfl

theorem stepExpiry_moving {m : Move} (due : Due s.closure.stepTimer) (moving : s.closure.unit = .moving m) (stage : m.stage = .stepping) :
    stepExpiry s = if m.length ≤ m.taken then arrive m s else takeStep m s := by
  simp only [stepExpiry, isDue_of_due due, moving, stage]

theorem headMove_eq {target length : Nat} (there : target = pressLocation s.settings p)
    (apart : length = if s.closure.stepCount < target then target - s.closure.stepCount else s.closure.stepCount - target) :
    headMove s p = ⟨.stepping, target, length, 0, decide (s.closure.stepCount < target),
      min s.settings.rampSteps ((length + 1) / 2), min s.settings.rampSteps (length / 2)⟩ := by
  rw [← distance_eq] at apart
  subst there apart
  rfl

/-- Service begins at once when the unit is IDLE, an entry waits, and no CLOSE_CANCEL of it comes together with it (R150). -/
theorem serve_leaves_idle (queue : s.closure.queue = p :: rest) (alone : ¬CancelTogether s) : (serve s).closure.unit ≠ .idle := by
  intro idle
  obtain ⟨-, empty | together, -⟩ := serve_unit_idle s idle
  · rw [queue] at empty
    cases empty
  · exact alone together

theorem phaseLines_off (off : s.closure.energised = false) : phaseLines s = 0 := by simp [phaseLines, off]

theorem phaseLines_on (on : s.closure.energised = true) {e : Excitation} {i : Nat} (excitation : s.settings.excitation = e)
    (index : s.closure.exIndex = i) : phaseLines s = phaseLines { s with
      settings := { s.settings with excitation := e }, closure := { s.closure with energised := true, exIndex := i } } := by
  subst excitation index
  rw [← on]

end Moves

/-- Settles O41. -/
theorem theCarriageStepsToTheHeadEntry : Obligations.TheCarriageStepsToTheHeadEntry := by
  intro s
  refine ⟨serve_not_begun, fun p rest idle queue alone => ?_, fun m => takeStep_eq m s, fun m => ⟨fun some => if_neg some, fun none => if_pos none⟩,
    fun m due moving stage => ⟨fun short => ?_, fun ended => ?_⟩, phaseLines_off, fun on full => ?_, fun on half => ?_⟩
  · intro target length move
    have begun := serve_begun idle queue alone
    rw [headMove_eq (pressLocation_eq s.settings p).symm rfl] at begun
    exact ⟨fun here => begun.trans (if_pos here), fun away => begun.trans (if_neg away), serve_leaves_idle queue alone⟩
  · exact congrArg Host.Outcome.next ((stepExpiry_moving due moving stage).trans (if_neg (not_le.mpr short)))
  · exact congrArg Host.Outcome.next ((stepExpiry_moving due moving stage).trans (if_pos ended))
  · refine ⟨?_, ?_, ?_, ?_⟩ <;> exact phaseLines_on on full
  · refine ⟨?_, ?_, ?_, ?_, ?_, ?_, ?_, ?_⟩ <;> exact phaseLines_on on half

end Sys2Proof.Machine
end

section
/-! PROOF. Homing and the press cycle (R144, R148 to R157). -/

namespace Sys2Proof.Machine

/-! ## Homing (R144, R148, R149, R157) -/

section Homing
variable {s : State}

theorem homingStep_eq (s : State) : homingStep s = s.setClosure { s.closure with
    tally := s.closure.tally + 1
    exIndex := (s.closure.exIndex + (if s.settings.excitation = .full then 4 else 8) - 1) % (if s.settings.excitation = .full then 4 else 8)
    stepTimer := startTimer s.settings.stepStart } := by
  simp only [← patternSize_eq]
  rfl

/-- The unit as it enters HOMING, before the carriage is found home or steps back (R149). -/
def homingEntered (s : State) : State := s.setClosure { s.closure with unit := .homing, energised := true, tally := 0 }

theorem enterHoming_eq (s : State) :
    enterHoming s = if s.closure.home.level then reachHome (homingEntered s) else homingStep (homingEntered s) := rfl

theorem enterHoming_taken (take : CanTake s) :
    enterHoming (s.setLink (takenLink s.link)) = (enterHoming s).setLink (takenLink (enterHoming s).link) := by
  have link : (enterHoming s).link = s.link := (enterHoming_frame s).2 .link (by decide)
  rw [enterHoming_setLink s (takenLink s.link) (iff_of_false nofun take), link]

theorem reqCarriageHome_still (still : s.closure.unit = .unhomed ∨ s.closure.unit = .idle) :
    reqCarriageHome s = answer .ok (enterHoming s) := by
  unfold reqCarriageHome
  rcases still with unit | unit <;> rw [unit]

theorem reqCarriageHome_busy (busy : UnitBusy s.closure.unit) : reqCarriageHome s = answer .busy s := by
  unfold reqCarriageHome
  rcases busy with unit | ⟨m, unit⟩ | ⟨target, unit⟩ <;> rw [unit]

theorem reqCarriageHome_fault (fault : s.closure.unit = .fault) : reqCarriageHome s = answer .wrongState s := by
  unfold reqCarriageHome
  rw [fault]

theorem stepExpiry_homing (due : Due s.closure.stepTimer) (homing : s.closure.unit = .homing) :
    stepExpiry s = if s.closure.tally < homingLimit s.settings then homingStep s
      else raiseFault homeTimeoutKind 0 (s.setClosure (unitFault .homeTimeout s.closure)) := by
  simp only [stepExpiry, isDue_of_due due, homing]

end Homing

/-- Settles O42. -/
theorem homingFindsTheZero : Obligations.HomingFindsTheZero := by
  intro s size entered back atZero homing
  have enters : enterHoming s = homing := by
    rw [enterHoming_eq, homingStep_eq]
    rfl
  have takenEnters := fun take : CanTake s => congrArg (answer .ok) (enterHoming_taken take)
  simp only [enters] at takenEnters
  refine ⟨fun take => ⟨fun still => ?_, fun busy => ?_, fun fault => ⟨?_, ?_⟩, fun sound => ?_⟩, fun unit due => ⟨fun short => ?_, fun long => ?_⟩,
    fun change => ⟨fun unit => ?_, fun unit => ?_⟩, fun change => ?_⟩
  · exact request_addressed_eq_answered take ((reqCarriageHome_still (s := s.setLink (takenLink s.link)) still).trans (takenEnters take))
  · exact request_addressed_eq_answered take (reqCarriageHome_busy (s := s.setLink (takenLink s.link)) busy)
  · exact request_addressed_eq_answered take (reqCarriageHome_fault (s := s.setLink (takenLink s.link)) fault)
  · exact request_addressed_eq_answered take ((if_pos fault).trans (takenEnters take))
  · exact request_addressed_eq_answered take (if_neg sound)
  · exact congrArg Host.Outcome.next ((stepExpiry_homing due unit).trans ((if_pos short).trans (homingStep_eq s)))
  · exact congrArg Host.Outcome.next ((stepExpiry_homing due unit).trans (if_neg (not_lt.mpr long)))
  · exact congrArg Host.Outcome.next ((lineEvent_of change).trans (if_pos unit))
  · exact congrArg Host.Outcome.next ((lineEvent_of change).trans (if_neg unit))
  · exact congrArg Host.Outcome.next (lineEvent_of change)

/-! ## The press cycle (R128, R144, R152 to R155) -/

section Press
variable {s : State} {p : Pos} {rest : List Pos} {target f l n tag : Nat} {i : Fin 4}

theorem drawSlot_eq {stock : Tbl 4 RollSlot} (loaded : isLoaded (stock.get i) = true) (lowest : ∀ j, j < i → ¬isLoaded (stock.get j) = true) :
    drawSlot stock = some i := by
  refine List.find?_eq_some_iff_getElem.mpr ⟨loaded, i.val, by simp, by simp, fun j below => ?_⟩
  have inside : j < 4 := below.trans i.isLt
  simpa using lowest ⟨j, inside⟩ below

theorem drawnFrom_loaded (ok : slotOk (.loaded f l n)) :
    drawnFrom (.loaded f l n) = if n = l then .exhausted f l else .loaded f l (n + 1) := by
  obtain ⟨-, -, inside, -⟩ := ok
  simp only [drawnFrom]
  split_ifs <;> first | rfl | omega

/-- A draw takes one number from the remaining count (R124, R128). -/
theorem remaining_drawn {stock : Tbl 4 RollSlot} (ok : slotOk (stock.get i)) (loaded : isLoaded (stock.get i) = true) :
    remaining (stock.set i (drawnFrom (stock.get i))) + 1 = remaining stock := by
  have left := remaining_set_add stock i (drawnFrom (stock.get i))
  have drawn := undrawn_drawnFrom ok loaded
  omega

theorem firePress_eq (drawn : drawSlot s.stock = some i) : firePress target s = noteStockFall (remaining s.stock)
    ((s.setStock (s.stock.set i (drawnFrom (s.stock.get i)))).setClosure { s.closure with
      unit := .pressing target, tagInPress := some (nextTag (s.stock.get i)), press := true, dwellTimer := none
      pressTimer := startTimer s.settings.pressTimeout }) := by
  simp only [firePress, drawn]
  rfl

theorem dwellOver_stuck (queue : s.closure.queue = p :: rest) (stuck : s.closure.pressDone.level = true) : dwellOver target s =
    raiseFault pressStuckKind (PosSet.single p) (s.setClosure (unitFault (.pressStuck p) s.closure)) := by
  simp only [dwellOver, queue, stuck, if_true]

theorem dwellOver_free (queue : s.closure.queue = p :: rest) (free : s.closure.pressDone.level = false) :
    dwellOver target s = firePress target s := by
  simp [dwellOver, queue, free]

theorem dwellExpiry_dwell {m : Move} (due : Due s.closure.dwellTimer) (moving : s.closure.unit = .moving m) (stage : m.stage = .dwell) :
    dwellExpiry s = dwellOver m.target (s.setClosure { s.closure with dwellTimer := none }) := by
  simp only [dwellExpiry, isDue_of_due due, moving, stage]

theorem pressDoneRise_pressing (unit : s.closure.unit = .pressing target) :
    pressDoneRise s = completePress (s.setClosure { s.closure with pressDone := confirmed true }) := by
  simp only [pressDoneRise, State.setClosure, unit]

theorem pressDoneRise_other (unit : ∀ target, s.closure.unit ≠ .pressing target) :
    pressDoneRise s = s.setClosure { s.closure with pressDone := confirmed true } := by
  simp only [pressDoneRise]
  split
  · next target pressing => exact absurd pressing (unit target)
  · rfl

theorem completePress_eq (queue : s.closure.queue = p :: rest) (drawn : s.closure.tagInPress = some tag) :
    completePress s = serve (raiseClosed (PosSet.single p)
      ((putRec s p { getRec s p with state := .closed, closure := some ⟨tag, false⟩ }).setClosure { s.closure with
        queue := rest, tagInPress := none, unit := .idle, press := false, pressTimer := none })) := by
  simp only [completePress, queue, drawn]
  rfl

theorem pressExpiry_eq (due : Due s.closure.pressTimer) (unit : s.closure.unit = .pressing target)
    (queue : s.closure.queue = p :: rest) (drawn : s.closure.tagInPress = some tag) :
    pressExpiry s = raiseFault pressTimeoutKind (PosSet.single p)
      ((putRec s p { getRec s p with state := .passed, spoiled := some tag }).setClosure
        { unitFault (.pressTimeout p) s.closure with queue := rest, tagInPress := none }) := by
  simp only [pressExpiry, isDue_of_due due, unit, queue, drawn]
  rfl

end Press

/-- Settles O43. -/
theorem thePressCycleDrawsAndPlacesATag : Obligations.ThePressCycleDrawsAndPlacesATag := by
  intro s
  refine ⟨fun p rest queue => ⟨fun m moving stage due => ?_, fun target => ⟨dwellOver_stuck queue, fun i f l n free slot ok lowest => ?_⟩,
    fun target tag unit drawn => ⟨fun change => ?_, fun due => ?_⟩⟩, fun unit change => ?_, fun change => ?_⟩
  · exact congrArg Host.Outcome.next (dwellExpiry_dwell due moving stage)
  · have loaded : isLoaded (s.stock.get i) = true := (isLoaded_iff _).mpr ⟨f, l, n, slot⟩
    have chosen := drawSlot_eq loaded fun j below => mt (isLoaded_iff _).mp (lowest j below)
    have fires := (dwellOver_free (target := target) queue free).trans (firePress_eq chosen)
    have counts := remaining_drawn ok loaded
    rw [slot] at ok
    rw [slot, drawnFrom_loaded ok] at fires counts
    exact ⟨counts, fires⟩
  · exact congrArg Host.Outcome.next ((lineEvent_of change).trans ((pressDoneRise_pressing unit).trans
      (completePress_eq (s := s.setClosure { s.closure with pressDone := confirmed true }) queue drawn)))
  · exact congrArg Host.Outcome.next (pressExpiry_eq due unit queue drawn)
  · exact congrArg Host.Outcome.next ((lineEvent_of change).trans (pressDoneRise_other unit))
  · exact congrArg Host.Outcome.next (lineEvent_of change)

end Sys2Proof.Machine
end

section
/-! PROOF. CLOSE_CANCEL (R136, R139). -/

namespace Sys2Proof.Machine

/-! ## What serving keeps -/

section Serving
variable {s : State} {p : Pos} {rest : List Pos}

theorem serving_iff (c : Closure) : serving c = true ↔ (∃ m, c.unit = .moving m) ∨ ∃ target, c.unit = .pressing target := by
  unfold serving
  split <;> simp_all

theorem noteStockFall_closure (before : Nat) (s : State) : (noteStockFall before s).closure = s.closure :=
  (noteStockFall_frame s before).2 .closure (by decide)

theorem firePress_queue (target : Nat) (s : State) : (firePress target s).closure.queue = s.closure.queue := by
  cases drawn : drawSlot s.stock with
  | none => simp only [firePress, drawn]
  | some i =>
    rw [firePress_eq drawn, noteStockFall_closure]
    rfl

theorem dwellOver_queue (target : Nat) (s : State) : (dwellOver target s).closure.queue = s.closure.queue := by
  unfold dwellOver
  split
  · rfl
  · split
    · rfl
    · exact firePress_queue target s

theorem arrive_queue (m : Move) (s : State) : (arrive m s).closure.queue = s.closure.queue := by
  unfold arrive
  split
  · exact dwellOver_queue _ _
  · rfl

/-- Service begins without changing which entries wait (R150). -/
theorem serve_queue (s : State) : (serve s).closure.queue = s.closure.queue := by
  unfold serve
  split
  · simp only
    split
    · rfl
    · split
      · exact arrive_queue _ s
      · rfl
  · rfl

theorem getRec_serve (s : State) (q : Pos) : getRec (serve s) q = getRec s q :=
  getRec_congr ((serve_frame s).2 .table (by decide)) q

end Serving

/-! ## The entry taken out (R136, R139) -/

/-- The part with the entry of a position taken out of the queue (R136). -/
def uncalled (p : Pos) (s : State) : State :=
  { putRec s p { getRec s p with state := .passed } with closure := { s.closure with queue := s.closure.queue.erase p } }

/-- The press cycle of entry `p` over, its record written, before the next entry is served (R154). -/
def pressedOff (p : Pos) (rest : List Pos) (s : State) : State :=
  raiseClosed (PosSet.single p) { s with closure := { s.closure with
    pressDone := confirmed true, queue := rest, tagInPress := none, unit := .idle, press := false, pressTimer := none } }

/-- The part with entry `p` CLOSED with its tag, before the next entry is served (R154). -/
def pressedHead (p : Pos) (rest : List Pos) (tag : Nat) (s : State) : State :=
  pressedOff p rest (putRec s p { getRec s p with state := .closed, closure := some ⟨tag, false⟩ })

section Cancel
variable {s : State} {b : Byte} {p q : Pos} {rest : List Pos} {tag target : Nat}

theorem exec_closeCancel {t : State} {st : Status} (take : CanTake s) (at_p : b.toNat = p.val)
    (h : closeCancelAt p (s.setLink (takenLink s.link)) = answer st (t.setLink (takenLink t.link))) :
    exec (.closeCancel .addressed b) s = answered .addressed st [] t := request_atPosition_eq_answered take at_p h

/-- The entry is the one being served (R133). -/
def Served (p : Pos) (s : State) : Prop :=
  s.closure.queue.head? = some p ∧ ((∃ m, s.closure.unit = .moving m) ∨ ∃ target, s.closure.unit = .pressing target)

theorem exec_closeCancel_busy (take : CanTake s) (at_p : b.toNat = p.val) (served : Served p s) :
    exec (.closeCancel .addressed b) s = answered .addressed .busy [] s :=
  exec_closeCancel take at_p (if_pos ⟨(serving_iff s.closure).mpr served.2, served.1⟩)

theorem not_serving_head (waits : ¬Served p s) : ¬(serving s.closure = true ∧ s.closure.queue.head? = some p) :=
  fun ⟨busy, head⟩ => waits ⟨head, (serving_iff s.closure).mp busy⟩

theorem exec_closeCancel_wrongState (take : CanTake s) (at_p : b.toNat = p.val) (waits : ¬Served p s) (absent : p ∉ s.closure.queue) :
    exec (.closeCancel .addressed b) s = answered .addressed .wrongState [] s :=
  exec_closeCancel take at_p ((if_neg (not_serving_head waits)).trans (if_pos absent))

theorem exec_closeCancel_ok (take : CanTake s) (at_p : b.toNat = p.val) (waits : ¬Served p s) (queued : p ∈ s.closure.queue) :
    exec (.closeCancel .addressed b) s = answered .addressed .ok [] (serve (uncalled p s)) :=
  exec_closeCancel take at_p ((if_neg (not_serving_head waits)).trans ((if_neg (not_not_intro queued)).trans
    (congrArg (answer .ok) (serve_taken (s := uncalled p s) take))))

theorem exec_pressDoneRise_pressing (queue : s.closure.queue = q :: rest) (unit : s.closure.unit = .pressing target)
    (drawn : s.closure.tagInPress = some tag) (change : s.closure.pressDone.seeded = false ∨ s.closure.pressDone.level = false) :
    exec .pressDoneRise s = .next (serve (pressedHead q rest tag s)) :=
  congrArg Host.Outcome.next ((lineEvent_of change).trans ((pressDoneRise_pressing unit).trans
    (completePress_eq (s := s.setClosure { s.closure with pressDone := confirmed true }) queue drawn)))

theorem putRec_comm {r r' : Record} (other : q ≠ p) : putRec (putRec s q r) p r' = putRec (putRec s p r') q r := by
  have records : (s.table.records.set q r).set p r' = (s.table.records.set p r').set q r := by
    refine Tbl.ext fun i => ?_
    rw [Tbl.get_set, Tbl.get_set, Tbl.get_set, Tbl.get_set]
    by_cases at_p : i = p
    · rw [if_pos at_p, if_neg fun at_q => other (at_q.symm.trans at_p), if_pos at_p]
    · rw [if_neg at_p, if_neg at_p]
  exact congrArg (fun records => s.setTable { s.table with records := records }) records

theorem uncalled_pressedOff : uncalled p (pressedOff q (p :: rest) s) =
    pressedOff q rest (putRec s p { getRec s p with state := .passed }) := by
  have erased : (p :: rest).erase p = rest := List.erase_cons_head ..
  exact congrArg (fun queue => pressedOff q queue (putRec s p { getRec s p with state := .passed })) erased

/-- The press cycle's end and the cancel of the entry behind it leave the same, whichever is first (R139). -/
theorem uncalled_pressedHead (other : q ≠ p) : uncalled p (pressedHead q (p :: rest) tag s) = pressedHead q rest tag (uncalled p s) := by
  have at_p : getRec (putRec s q { getRec s q with state := .closed, closure := some ⟨tag, false⟩ }) p = getRec s p :=
    putRec_others s q _ p other.symm
  have at_q : getRec (putRec s p { getRec s p with state := .passed }) q = getRec s q := putRec_others s p _ q other
  calc uncalled p (pressedHead q (p :: rest) tag s)
    _ = pressedOff q rest (putRec (putRec s q { getRec s q with state := .closed, closure := some ⟨tag, false⟩ }) p
          { getRec s p with state := .passed }) := by rw [pressedHead, uncalled_pressedOff, at_p]
    _ = pressedOff q rest (putRec (putRec s p { getRec s p with state := .passed }) q
          { getRec (putRec s p { getRec s p with state := .passed }) q with state := .closed, closure := some ⟨tag, false⟩ }) := by
      rw [putRec_comm other, at_q]
    _ = pressedHead q rest tag (uncalled p s) := rfl

theorem closeRefusal_ne_ok {st : Status} (refused : closeRefusal p s = some st) : st ≠ .ok := by
  rintro rfl
  simp only [closeRefusal] at refused
  split_ifs at refused <;> cases refused

/-- The part with a position's entry at the end of the queue, before service begins (R134). -/
def called (p : Pos) (s : State) : State :=
  { putRec s p { getRec s p with state := .closing } with closure := { s.closure with queue := s.closure.queue ++ [p] } }

/-- A CLOSE answered OK has called the position. -/
theorem exec_close_of_ok {t : State} (take : CanTake s) (at_p : b.toNat = p.val) (next : exec (.close .addressed b) s = .next t)
    (ok : t.link.response = some ⟨.ok, []⟩) : answered .addressed .ok [] (serve (called p s)) = .next t := by
  cases refused : closeRefusal p s with
  | some st =>
    have answer := (exec_close take at_p (closePosition_refused (s := s.setLink (takenLink s.link)) refused)).symm.trans next
    cases answer
    cases ok
    exact absurd rfl (closeRefusal_ne_ok refused)
  | none =>
    exact (exec_close take at_p ((closePosition_open (s := s.setLink (takenLink s.link)) refused).trans
      (congrArg (·, Status.ok) (serve_taken (s := called p s) take)))).symm.trans next

theorem reservations_uncalled (queued : p ∈ s.closure.queue) : reservations (uncalled p s).closure = reservations s.closure - 1 := by
  have shorter : (s.closure.queue.erase p).length = s.closure.queue.length - 1 := List.length_erase_of_mem queued
  simp only [reservations, uncalled, shorter]
  exact Nat.sub_right_comm ..

theorem recordLaw_closing {r : Record} (law : RecordLaw r) (closing : r.state = .closing) : r.closure = none ∧ r.spoiled = none := by
  obtain ⟨-, -, closure, spoiled, -⟩ := law
  simp_all

theorem not_served_of_idle (idle : s.closure.unit = .idle) : ¬Served p s := by
  rintro ⟨-, ⟨m, moving⟩ | ⟨target, pressing⟩⟩
  · cases idle.symm.trans moving
  · cases idle.symm.trans pressing

theorem not_served_of_head (other : q ≠ p) (queue : s.closure.queue = q :: rest) : ¬Served p s := by
  rintro ⟨head, -⟩
  rw [queue] at head
  exact other (Option.some.inj head)

theorem answered_serve (take : CanTake s) :
    answered .addressed .ok [] (serve s) = .next (serve (s.setLink (afterRequest .addressed s.link .ok []))) := by
  have link : (serve s).link = s.link := (serve_frame s).2 .link (by decide)
  rw [serve_setLink s (afterRequest .addressed s.link .ok []) (iff_of_false nofun take), ← link]
  rfl

theorem distance_eq_zero {a b : Nat} (here : distance a b = 0) : a = b := by
  unfold distance at here
  omega

/-- The order of a CLOSE_CANCEL and the end of the press cycle before it makes no difference (R139). -/
theorem cancel_commutes_with_press (take : CanTake s) (at_p : b.toNat = p.val) (queue : s.closure.queue = q :: p :: rest) (other : q ≠ p)
    (unit : s.closure.unit = .pressing target) (drawn : s.closure.tagInPress = some tag)
    (change : s.closure.pressDone.seeded = false ∨ s.closure.pressDone.level = false) (more : List Instr) :
    ∃ t v u, step { s with pending := .pressDoneRise :: .closeCancel .addressed b :: more } = .next t ∧ step t = .next u ∧
      step { s with pending := .closeCancel .addressed b :: .pressDoneRise :: more } = .next v ∧ step v = .next u ∧
      (getRec u q).state = .closed ∧ (getRec u p).state = .passed ∧ u.closure.queue = rest ∧ u.link.response = some ⟨.ok, []⟩ := by
  let later : State := { s with pending := more }
  have together : CancelTogether (pressedHead q (p :: rest) tag { s with pending := .closeCancel .addressed b :: more }) :=
    ⟨p, rest, b, more, rfl, rfl, at_p, take⟩
  have waits : ¬Served p later := not_served_of_head other queue
  have queued : p ∈ s.closure.queue := by simp [queue]
  have busy : s.closure.unit ≠ .idle := by rw [unit]; nofun
  have pressed := exec_pressDoneRise_pressing (s := { s with pending := .closeCancel .addressed b :: more }) queue unit drawn change
  rw [serve_of_cancelTogether _ together] at pressed
  have cancelled := exec_closeCancel_ok (s := pressedHead q (p :: rest) tag later) take at_p (not_served_of_idle rfl) List.mem_cons_self
  rw [uncalled_pressedHead other, answered_serve (s := pressedHead q rest tag (uncalled p later)) take] at cancelled
  have first := exec_closeCancel_ok (s := { s with pending := .pressDoneRise :: more }) take at_p waits queued
  rw [serve_not_begun (s := uncalled p { s with pending := .pressDoneRise :: more }) (.inl busy)] at first
  have erased : s.closure.queue.erase p = q :: rest := by rw [queue, List.erase_cons_tail (by simpa using other), List.erase_cons_head]
  have second := exec_pressDoneRise_pressing (s := (uncalled p later).setLink (afterRequest .addressed s.link .ok [])) erased unit drawn change
  refine ⟨_, _, _, (step_cons rfl).trans pressed, (step_cons rfl).trans cancelled, (step_cons rfl).trans first, (step_cons rfl).trans second,
    ?_, ?_, serve_queue _, ?_⟩
  · rw [getRec_serve]
    exact congrArg Record.state (getRec_putRec_self _ q _)
  · rw [getRec_serve]
    exact (congrArg Record.state (putRec_others (uncalled p later) q _ p other.symm)).trans (congrArg Record.state (getRec_putRec_self _ p _))
  · exact congrArg Link.response ((serve_frame _).2 .link (by decide))

theorem late_cancel_is_busy (take : CanTake s) (at_p : b.toNat = p.val) (queue : s.closure.queue = q :: p :: rest)
    (unit : s.closure.unit = .pressing target) (drawn : s.closure.tagInPress = some tag)
    (change : s.closure.pressDone.seeded = false ∨ s.closure.pressDone.level = false)
    (away : pressLocation s.settings p ≠ s.closure.stepCount) (alone : s.pending.head? ≠ some (.closeCancel .addressed b)) :
    ∃ t m, exec .pressDoneRise s = .next t ∧ t.closure.unit = .moving m ∧ t.closure.queue = p :: rest ∧
      exec (.closeCancel .addressed b) t = answered .addressed .busy [] t := by
  have alone' : ¬CancelTogether (pressedHead q (p :: rest) tag s) := by
    rintro ⟨p', rest', b', more, head, waits, at_p', -⟩
    cases head
    have same : b' = b := BitVec.eq_of_toNat_eq (at_p'.trans at_p.symm)
    exact alone (by rw [show s.pending = _ from waits, same]; rfl)
  have begun := serve_begun (s := pressedHead q (p :: rest) tag s) rfl rfl alone'
  have long : (headMove (pressedHead q (p :: rest) tag s) p).length ≠ 0 := fun none => away (distance_eq_zero none)
  have pressed := exec_pressDoneRise_pressing queue unit drawn change
  rw [begun, if_neg long] at pressed
  exact ⟨_, _, pressed, rfl, rfl, exec_closeCancel_busy take at_p ⟨rfl, .inl ⟨_, rfl⟩⟩⟩

theorem cancel_undoes_close {t : State} {more : List Instr} (take : CanTake s) (at_p : b.toNat = p.val) (idle : s.closure.unit = .idle)
    (empty : s.closure.queue = []) (next : exec (.close .addressed b) { s with pending := .closeCancel .addressed b :: more } = .next t)
    (ok : t.link.response = some ⟨.ok, []⟩) : t.closure.unit = .idle ∧ t.closure.queue = [p] ∧
      ∃ u, step t = .next u ∧ u.closure = s.closure ∧ (getRec u p).state = .passed ∧ u.link.response = some ⟨.ok, []⟩ := by
  have queue : (called p s).closure.queue = [p] := congrArg (· ++ [p]) empty
  have next := exec_close_of_ok (s := { s with pending := .closeCancel .addressed b :: more }) take at_p next ok
  rw [serve_of_cancelTogether (called p { s with pending := .closeCancel .addressed b :: more })
    ⟨p, [], b, more, queue, rfl, at_p, take⟩] at next
  cases next
  have waits : p ∈ (called p s).closure.queue := by simp [queue]
  have cancelled := exec_closeCancel_ok (s := (called p { s with pending := more }).setLink (afterRequest .addressed s.link .ok []))
    nofun at_p (not_served_of_idle idle) waits
  have erased : (called p s).closure.queue.erase p = [] := by rw [queue, List.erase_cons_head]
  rw [serve_not_begun (.inr (.inl erased))] at cancelled
  refine ⟨idle, queue, _, (step_cons rfl).trans cancelled, ?_, ?_, rfl⟩
  · exact (congrArg (fun queue => { s.closure with queue }) (erased.trans empty.symm))
  · exact congrArg Record.state (getRec_putRec_self _ p _)

end Cancel

/-- Settles O40. -/
theorem closeCancelTakesAnEntryOutOfTheQueue : Obligations.CloseCancelTakesAnEntryOutOfTheQueue := by
  intro b s take
  refine ⟨request_atPosition_outOfRange take, request_broadcast_ignored take rfl, fun p at_p => ⟨exec_closeCancel_busy take at_p,
    fun q rest target tag queue other unit drawn change => ⟨cancel_commutes_with_press take at_p queue other unit drawn change,
      late_cancel_is_busy take at_p queue unit drawn change⟩,
    fun more t idle empty => cancel_undoes_close take at_p idle empty, exec_closeCancel_wrongState take at_p, fun waits queued => ?_⟩⟩
  refine ⟨uncalled p s, exec_closeCancel_ok take at_p waits queued, rfl, reservations_uncalled queued, fun law closing => ?_⟩
  have kept := recordLaw_closing law closing
  have record : getRec (uncalled p s) p = { getRec s p with state := .passed } := getRec_putRec_self _ p _
  rw [record]
  exact kept

end Sys2Proof.Machine
end

section
/-! PROOF. SET (R44, R53, R88, R158, R185, R195). -/

namespace Sys2Proof.Machine

/-! ## The values settings hold -/

section Values
variable {v : Settings} {id lo hi d n other : Nat}

theorem clampTo_eq (rising : lo ≤ hi) (n : Nat) : clampTo lo hi n = max lo (min hi n) := by
  unfold clampTo
  split_ifs <;> omega

theorem clampStatus_eq (lo hi n : Nat) : clampStatus lo hi n = if lo ≤ n ∧ n ≤ hi then .ok else .clamped := by
  simp only [clampStatus, within_iff]

theorem settingRange_of_mem (known : (id, lo, hi, d) ∈ settingTable) : settingRange id = (lo, hi) ∧ lo ≤ hi := by
  have ranges : ∀ e ∈ settingTable, settingRange e.1 = (e.2.1, e.2.2.1) ∧ e.2.1 ≤ e.2.2.1 := by decide
  exact ranges _ known

/-- A value of the setting's range is held as it was written. -/
theorem settingValue_writeSetting_same (v : Settings) (known : settingValue v id ≠ none) (high : n ≤ (settingRange id).2) :
    settingValue (writeSetting v id n) id = some n := by
  revert known high
  unfold writeSetting
  split <;> intro known high
  case h_1 | h_3 | h_8 =>
    have two : n = 0 ∨ n = 1 := by have : n ≤ 1 := high; omega
    rcases two with rfl | rfl <;> rfl
  case h_7 | h_20 => exact congrArg some (Nat.mod_eq_of_lt (Nat.lt_succ_of_le high))
  case h_21 => exact absurd (by unfold settingValue; split <;> first | rfl | contradiction) known
  all_goals rfl

theorem settingValue_writeSetting_other (v : Settings) (n : Nat) (differs : other ≠ id) :
    settingValue (writeSetting v id n) other = settingValue v other := by
  unfold writeSetting
  split
  all_goals
    unfold settingValue
    split
    all_goals first | rfl | exact absurd rfl differs

end Values

/-! ## When a setting is open (R44, R53, R158) -/

section Open
variable {s : State} {id : Nat}

theorem isGeometry_iff : isGeometry id = true ↔ GeometryId id := by
  simp only [isGeometry, GeometryId, Bool.or_eq_true, beq_iff_eq, or_assoc]

theorem geometryOpen_iff (c : Closure) :
    geometryOpen c = true ↔ c.unit = .unhomed ∨ c.unit = .fault ∨ c.unit = .idle ∧ c.queue = [] := by
  unfold geometryOpen
  split <;> simp_all

theorem benchQuiet_iff : benchQuiet s = true ↔
    (∀ p, (getRec s p).state = .vacant) ∧ (s.closure.unit = .unhomed ∨ s.closure.unit = .idle ∧ s.closure.queue = []) := by
  have vacant : (!anyRec s fun r => r.state ≠ .vacant) = true ↔ ∀ p, (getRec s p).state = .vacant := by
    rw [Bool.not_eq_true', ← Bool.not_eq_true, anyRec_iff]
    simp
  rw [benchQuiet, Bool.and_eq_true, vacant]
  refine and_congr_right fun _ => ?_
  split <;> simp_all

theorem setAllowed_iff (id : Nat) (s : State) : setAllowed id s = true ↔ SetOpen id s := by
  unfold setAllowed SetOpen
  split
  · next orient => simp [orient, GeometryId, benchQuiet_iff]
  · split
    · next reference => simp [reference, GeometryId]
    · split
      · next orient reference geometry => simp [orient, reference, isGeometry_iff.mp geometry, geometryOpen_iff]
      · next orient reference other => simp [orient, reference, mt isGeometry_iff.mpr other]

theorem reachKept_iff (v : Settings) (s : State) : reachKept v s.closure.queue = true ↔ ReachKept v s := by
  simp [reachKept, ReachKept]

end Open

/-! ## What an accepted SET does (R88, R158, R195) -/

section Effects
variable {s : State} {id n : Nat} {old : Settings}

theorem afterSet_settings (id : Nat) (old : Settings) (s : State) : (afterSet id old s).settings = s.settings := by
  have effect := afterSet_effect id old s
  generalize afterSet id old s = t at effect
  cases effect <;> rfl

theorem afterSet_run : (afterSet id old s).run =
    if id = 0x12 ∧ (s.run.state = .idle ∨ s.straps.role = .slave) then { s.run with load := s.settings.restCode } else s.run := by
  by_cases load : id = 0x12
  · rw [afterSet, if_pos load]
    simp only [load, true_and]
    split <;> rfl
  · have effect := afterSet_effect id old s
    rw [if_neg fun h => load h.1]
    generalize afterSet id old s = t at effect
    cases effect with
    | load at_id => exact absurd at_id load
    | plain | excitation | travel | mask => rfl

theorem afterSet_closure : (afterSet id old s).closure =
    if id = 0x20 ∧ s.settings.excitation ≠ old.excitation then { unhome s.closure with exIndex := 0 }
    else if id = 0x26 ∧ s.settings.travel ≠ old.travel ∧ s.settings.travel < s.closure.stepCount then unhome s.closure else s.closure := by
  unfold afterSet
  split_ifs <;> simp_all [putAttn]

theorem afterSet_attn (other : id ≠ 0x40) : (afterSet id old s).attn = s.attn := by
  have effect := afterSet_effect id old s
  generalize afterSet id old s = t at effect
  cases effect with
  | mask at_id => exact absurd at_id other
  | plain | load | excitation | travel => rfl

theorem afterSet_atnLaw (mask : id = 0x40) : AtnLaw (afterSet id old s) := by
  subst mask
  exact atnLaw_putAttn s s.attn

theorem afterSet_atn (id : Nat) (old : Settings) (s : State) : ∃ atn, (afterSet id old s).attn = { s.attn with atn := atn } := by
  by_cases mask : id = 0x40
  · subst mask
    exact ⟨_, rfl⟩
  · exact ⟨s.attn.atn, afterSet_attn mask⟩

theorem afterSet_setLink (l : Link) : afterSet id old (s.setLink l) = (afterSet id old s).setLink l := by
  simp only [afterSet, setLink_ite]
  rfl

end Effects

/-! ## SET as a request (R185) -/

section Set
variable {s : State} {id : Byte} {value : BitVec 32} {n lo hi d : Nat}

theorem reqSet_outOfRange (unknown : ∀ lo hi d, (id.toNat, lo, hi, d) ∉ settingTable) : reqSet id value s = answer .outOfRange s :=
  if_pos (by rw [settingValue_of_not_mem unknown]; rfl)

theorem reqSet_known (known : (id.toNat, lo, hi, d) ∈ settingTable) : reqSet id value s =
    if !setAllowed id.toNat s then answer .wrongState s
    else if isGeometry id.toNat && !reachKept (writeSetting s.settings id.toNat (max lo (min hi value.toNat))) s.closure.queue then
      answer .wrongState s
    else
      let t := afterSet id.toNat s.settings (s.setSettings (writeSetting s.settings id.toNat (max lo (min hi value.toNat))))
      (t, ⟨if lo ≤ value.toNat ∧ value.toNat ≤ hi then .ok else .clamped, settingPayload id t⟩) := by
  obtain ⟨held, some⟩ := settingValue_of_mem s.settings known
  obtain ⟨range, rising⟩ := settingRange_of_mem known
  rw [reqSet, range, ← clampTo_eq rising, ← clampStatus_eq]
  exact if_neg (by simp [some])

theorem excitation_code_inj {e e' : Excitation} (same : e.code = e'.code) : e = e' := by
  cases e <;> cases e' <;> first | rfl | cases same

/-- An accepted SET, the new settings at hand (R88, R158, R195). -/
theorem accepted_set (n : Nat) (s : State) (same : settingValue (writeSetting s.settings id.toNat n) id.toNat = some n) :
    let t := afterSet id.toNat s.settings (s.setSettings (writeSetting s.settings id.toNat n))
    OnlyChanges [.settings, .run, .closure, .attn] s t ∧ settingValue t.settings id.toNat = some n ∧
      (∀ other, other ≠ id.toNat → settingValue t.settings other = settingValue s.settings other) ∧
      t.run = (if id = 0x12 ∧ (s.run.state = .idle ∨ s.straps.role = .slave) then { s.run with load := BitVec.ofNat 12 n } else s.run) ∧
      t.closure = (if id = 0x20 ∧ settingValue s.settings 0x20 ≠ some n then
          { s.closure with unit := .unhomed, energised := false, exIndex := 0 }
        else if id = 0x26 ∧ settingValue s.settings 0x26 ≠ some n ∧ n < s.closure.stepCount then
          { s.closure with unit := .unhomed, energised := false }
        else s.closure) ∧
      (∃ atn, t.attn = { s.attn with atn := atn }) ∧ (id ≠ 0x40 → t.attn = s.attn) ∧ (id = 0x40 → AtnLaw t) := by
  intro t
  have settings : t.settings = writeSetting s.settings id.toNat n := afterSet_settings ..
  have is_load : id = 0x12 ↔ id.toNat = 0x12 := BitVec.toNat_inj.symm
  have is_excitation : id = 0x20 ↔ id.toNat = 0x20 := BitVec.toNat_inj.symm
  have is_travel : id = 0x26 ↔ id.toNat = 0x26 := BitVec.toNat_inj.symm
  have is_mask : id = 0x40 ↔ id.toNat = 0x40 := BitVec.toNat_inj.symm
  simp only [is_load, is_excitation, is_travel]
  refine ⟨(setSettings_frame s _).comp (afterSet_frame _ _ _), settings ▸ same,
    fun other differs => settings ▸ settingValue_writeSetting_other s.settings n differs, ?_, ?_, afterSet_atn _ _ _,
    fun other => afterSet_attn (mt is_mask.mpr other), fun mask => afterSet_atnLaw (is_mask.mp mask)⟩
  · refine afterSet_run.trans (ite_congr rfl (fun ⟨at_id, _⟩ => ?_) fun _ => rfl)
    rw [at_id]
    rfl
  · refine afterSet_closure.trans (if_congr (and_congr_right fun at_id => ?_) rfl (if_congr (and_congr_right fun at_id => ?_) rfl rfl))
    · rw [at_id] at same ⊢
      exact not_congr ⟨fun held => (congrArg (fun e : Excitation => some e.code) held.symm).trans same, fun held => excitation_code_inj (Option.some.inj (same.trans held.symm))⟩
    · rw [at_id]
      exact and_congr_left' (not_congr ⟨fun held => congrArg some held.symm, fun held => (Option.some.inj held).symm⟩)

/-- The reply names the value now held, and the link is left as it was taken (R185). -/
theorem accepted_reply {st : Status} (same : settingValue (writeSetting s.settings id.toNat n) id.toNat = some n) :
    let t := afterSet id.toNat s.settings (s.setSettings (writeSetting s.settings id.toNat n))
    let taken := afterSet id.toNat s.settings ((s.setLink (takenLink s.link)).setSettings (writeSetting s.settings id.toNat n))
    (taken, (⟨st, settingPayload id taken⟩ : Reply)) = (t.setLink (takenLink t.link), ⟨st, id :: be 4 n⟩) := by
  intro t taken
  have link : t.link = s.link := (afterSet_frame _ _ _).2 .link (by decide)
  have kept : taken = t.setLink (takenLink t.link) := by
    rw [link]
    exact afterSet_setLink (s := s.setSettings (writeSetting s.settings id.toNat n)) (takenLink s.link)
  have payload : settingPayload id taken = id :: be 4 n := by
    rw [settingPayload, afterSet_settings]
    exact congrArg (fun held : Option Nat => id :: be 4 (held.getD 0)) same
  rw [payload, kept]

end Set

/-- Settles O11. -/
theorem setBringsTheValueIntoRangeAndHoldsIt : Obligations.SetBringsTheValueIntoRangeAndHoldsIt := by
  intro how id value s take
  have row := exec_setRow how id value s
  refine ⟨fun unknown => row.trans (request_eq_answered_unchanged take (reqSet_outOfRange unknown)), fun lo hi d known => ?_⟩
  intro n
  have set := reqSet_known (s := s.setLink (takenLink s.link)) (value := value) known
  refine ⟨fun barred => ?_, fun open_ geometry far => ?_, fun open_ near => ?_⟩
  · have closed := mt (setAllowed_iff id.toNat (s.setLink (takenLink s.link))).mp barred
    exact row.trans (request_eq_answered_unchanged take (set.trans (if_pos (by simp [closed]))))
  · have allowed := (setAllowed_iff id.toNat (s.setLink (takenLink s.link))).mpr open_
    have beyond := mt (reachKept_iff (writeSetting s.settings id.toNat n) s).mp far
    refine row.trans (request_eq_answered_unchanged take (set.trans ((if_neg (by simp [allowed])).trans (if_pos ?_))))
    simpa [isGeometry_iff.mpr geometry] using beyond
  · have allowed := (setAllowed_iff id.toNat (s.setLink (takenLink s.link))).mpr open_
    have within_reach : ¬(isGeometry id.toNat && !reachKept (writeSetting s.settings id.toNat n) s.closure.queue) = true := by
      simpa [isGeometry_iff, reachKept_iff] using near
    have same : settingValue (writeSetting s.settings id.toNat n) id.toNat = some n := by
      obtain ⟨range, rising⟩ := settingRange_of_mem known
      obtain ⟨held, some⟩ := settingValue_of_mem s.settings known
      exact settingValue_writeSetting_same s.settings (by simp [some]) (by rw [range]; exact max_le rising (min_le_left ..))
    have accepted := accepted_set n s same
    exact ⟨_, row.trans (request_eq_answered
      (t := afterSet id.toNat s.settings (s.setSettings (writeSetting s.settings id.toNat n))) take rfl
      (set.trans ((if_neg (by simp [allowed])).trans ((if_neg within_reach).trans (accepted_reply same))))), accepted⟩

end Sys2Proof.Machine
end

section
/-! PROOF. Meter edges, the reference and the point timer (R43, R46 to R86). -/

namespace Sys2Proof.Machine

/-! ## An edge at its member (R49, R64 to R67, R74, R80, R81) -/

section Edges
variable {s : State} {slot p : Pos} {i : Identity} {c : Context} {point : Point} {present : Bool} {capture : BitVec 32}

theorem slotOf_eq {o : Orientation} (mapped : p.val = if o = .normal then slot.val else 47 - slot.val) : slotOf o slot = p := by
  refine Fin.ext ?_
  cases o with
  | normal => exact mapped.symm
  | mirrored => simpa [slotOf] using mapped.symm

theorem edgeLevel_eq (sense : Sense) : edgeLevel sense = decide (sense = .rising) := by cases sense <;> rfl

theorem meterEdge_vacant (at_slot : slotOf s.settings.orient slot = p) (vacant : (getRec s p).identity = none) : meterEdge slot s = s := by
  simp only [meterEdge, at_slot, vacant]

theorem slotChange_mounted {level : Bool} (at_slot : slotOf s.settings.orient slot = p) (mounted : (getRec s p).identity = some i) :
    slotChange slot level s = if decide (i.sense = .rising) = level then deliverEdge p (putFilter slot (confirmed level) s)
      else putFilter slot (confirmed level) s := by
  have orient : slotOf (putFilter slot (confirmed level) s).settings.orient slot = p := at_slot
  have kept : (getRec (putFilter slot (confirmed level) s) p).identity = some i := mounted
  simp only [slotChange, orient, kept, edgeLevel_eq]

theorem slotChange_vacant {level : Bool} (at_slot : slotOf s.settings.orient slot = p) (vacant : (getRec s p).identity = none) :
    slotChange slot level s = putFilter slot (confirmed level) s := by
  have orient : slotOf (putFilter slot (confirmed level) s).settings.orient slot = p := at_slot
  have kept : (getRec (putFilter slot (confirmed level) s) p).identity = none := vacant
  simp only [slotChange, orient, kept]

theorem meterEdge_mounted (at_slot : slotOf s.settings.orient slot = p) (mounted : (getRec s p).identity = some i) :
    meterEdge slot s = deliverEdge p (putFilter slot (confirmed (decide (i.sense = .rising))) s) := by
  simp only [meterEdge, at_slot, mounted, edgeLevel_eq]
  exact (slotChange_mounted at_slot mounted).trans (if_pos rfl)

theorem deliverEdge_unused (h : s.engine.point = none ∨ (getRec s p).state ≠ .active ∨ ∃ c, (getRec s p).context = some c ∧ c.phase = .done) :
    deliverEdge p s = s := by
  unfold deliverEdge
  simp only
  split
  · next j i c point measures _ context _ =>
    refine if_neg fun ⟨active, open_⟩ => ?_
    rcases h with stopped | other | ⟨d, at_d, done⟩
    · cases stopped.symm.trans measures
    · exact other active
    · cases at_d.symm.trans context
      exact open_ done
  · rfl

theorem deliverEdge_used (measures : s.engine.point = some s.run.index) (at_index : s.plan[s.run.index]? = some point)
    (mounted : (getRec s p).identity = some i) (active : (getRec s p).state = .active) (context : (getRec s p).context = some c)
    (open_ : c.phase ≠ .done) :
    deliverEdge p s = applyEdge p s.run.index (edgeEffect point.body i s.front.present s.front.counter c) s := by
  have current : currentPoint s = some point := at_index
  simp only [deliverEdge, measures, mounted, context, current]
  exact if_pos ⟨active, open_⟩

section Error
variable {n reps timeout : Nat} {limits : Tbl 4 (Nat × Nat)}

theorem edgeEffect_awaiting (awaits : c.phase = .awaitEdge) : edgeEffect (.error n reps timeout limits) i present capture c =
    if present then .going (openGate capture c) else .going c := by
  simp only [edgeEffect, awaits]

theorem edgeEffect_within_gate (gate : c.phase = .gateOpen) (more : c.edges + 1 < n) :
    edgeEffect (.error n reps timeout limits) i present capture c = .going { c with edges := c.edges + 1 } := by
  simp only [edgeEffect, gate]
  exact if_neg (not_le.mpr more)

theorem edgeEffect_gate_end (gate : c.phase = .gateOpen) (ends : n ≤ c.edges + 1) :
    edgeEffect (.error n reps timeout limits) i present capture c =
      closeGate n reps (limits.get i.cls) i.mr capture { c with edges := c.edges + 1 } := by
  simp only [edgeEffect, gate]
  exact if_pos ends

end Error

theorem openGate_of_open (gate : c.phase = .gateOpen) : openGate capture c = { c with c0 := capture, edges := 0 } := by
  rw [openGate, ← gate]

end Edges

/-- Settles O45. -/
theorem meterEdgesDriveTheGatesAndCounts : Obligations.MeterEdgesDriveTheGatesAndCounts := by
  intro s slot p mapped
  have at_slot := slotOf_eq mapped
  refine ⟨fun vacant => congrArg Host.Outcome.next (meterEdge_vacant at_slot vacant), fun i mounted => ?_⟩
  intro u r
  have delivers : exec (.meterEdge slot) s = .next (deliverEdge p u) := congrArg Host.Outcome.next (meterEdge_mounted at_slot mounted)
  refine ⟨fun unused => delivers.trans (congrArg Host.Outcome.next (deliverEdge_unused (s := u) unused)),
    fun c point measures at_index active context open_ => ?_⟩
  intro goesOn isDone
  have used := delivers.trans (congrArg Host.Outcome.next (deliverEdge_used (s := u) measures at_index mounted active context open_))
  have going : ∀ {c'}, edgeEffect point.body i s.front.present s.front.counter c = .going c' → goesOn c' := fun effect =>
    used.trans (congrArg (fun effect => Host.Outcome.next (applyEdge p s.run.index effect u)) effect)
  have finished : ∀ {c' result}, edgeEffect point.body i s.front.present s.front.counter c = .finished c' result → isDone c' result :=
    fun effect => used.trans (congrArg (fun effect => Host.Outcome.next (applyEdge p s.run.index effect u)) effect)
  refine ⟨fun n reps timeout limits body => ⟨fun awaits absent => going ?_, fun awaits present => going ?_, fun gate more => going ?_,
    fun gate ends => ⟨fun none => going ?_, fun counted more => going ?_, fun counted last => finished ?_⟩⟩,
    fun window required body => ⟨fun more => going ?_, fun enough => finished ?_⟩,
    fun window allowed body => ⟨fun few => going ?_, fun many => finished ?_⟩⟩
  all_goals rw [body]
  · exact (edgeEffect_awaiting awaits).trans (if_neg (by simp [absent]))
  · exact (edgeEffect_awaiting awaits).trans (if_pos present)
  · exact edgeEffect_within_gate gate more
  · exact (edgeEffect_gate_end gate ends).trans ((if_pos none).trans (congrArg EdgeEffect.going (openGate_of_open gate)))
  · exact (edgeEffect_gate_end gate ends).trans ((if_neg counted).trans ((if_neg (not_le.mpr more)).trans
      (congrArg EdgeEffect.going (openGate_of_open gate))))
  · exact (edgeEffect_gate_end gate ends).trans ((if_neg counted).trans (if_pos last))
  · exact if_neg (not_le.mpr more)
  · exact if_pos enough
  · exact if_neg (not_lt.mpr few)
  · exact if_pos many

/-! ## The reference (R53 to R56, R75, R76) -/

section Reference
variable {s : State} {p : Pos}

/-- A member with its gate open (R76). -/
def GateOpen (s : State) (p : Pos) : Prop := (getRec s p).state = .active ∧ ∃ c, (getRec s p).context = some c ∧ c.phase = .gateOpen

/-- An ERROR point is being measured (R75). -/
def ErrorPoint (s : State) : Prop := s.engine.point ≠ none ∧ ∃ point n reps timeout limits, s.plan[s.run.index]? = some point ∧
  point.body = .error n reps timeout limits

theorem gateIsOpen_iff : gateIsOpen (getRec s p) = true ↔ GateOpen s p := by
  simp only [gateIsOpen, GateOpen, Bool.and_eq_true, decide_eq_true_eq, Option.any_eq_true]

theorem loseGate_open {c : Context} (gate : GateOpen s p) (context : (getRec s p).context = some c) :
    loseGate (getRec s p) = { getRec s p with context := some { c with phase := .awaitEdge, edges := 0 } } := by
  obtain ⟨active, d, at_d, open_⟩ := gate
  cases at_d.symm.trans context
  simp only [loseGate, context]
  exact if_pos ⟨active, open_⟩

theorem loseGate_closed (gate : ¬GateOpen s p) : loseGate (getRec s p) = getRec s p := by
  unfold loseGate
  split
  · next c context => exact if_neg fun ⟨active, open_⟩ => gate ⟨active, c, context, open_⟩
  · rfl

theorem referenceLost_error (point : ErrorPoint s) : referenceLost s =
    if anyRec s gateIsOpen then raiseFault refLostKind 0 (mapRecs (fun _ => loseGate) s) else mapRecs (fun _ => loseGate) s := by
  obtain ⟨measures, ⟨load, settle, pause, body⟩, n, reps, timeout, limits, at_index, error⟩ := point
  obtain ⟨i, at_i⟩ := Option.ne_none_iff_exists'.mp measures
  have current : currentPoint s = some ⟨load, settle, pause, body⟩ := at_index
  subst error
  simp only [referenceLost, at_i, current]

theorem referenceLost_other (point : ¬ErrorPoint s) : referenceLost s = s := by
  unfold referenceLost
  split
  · next measures current => exact absurd ⟨by simp [measures], _, _, _, _, _, current, rfl⟩ point
  · rfl

/-- With no gate open, the loss of the reference touches no member (R75). -/
theorem referenceLost_closed (closed : ∀ p, ¬GateOpen s p) : referenceLost s = s := by
  by_cases point : ErrorPoint s
  · have none : ¬anyRec s gateIsOpen = true := by
      rw [anyRec_iff]
      exact fun ⟨p, gate⟩ => closed p (gateIsOpen_iff.mp gate)
    have records : s.table.records.mapIdx (fun _ => loseGate) = s.table.records :=
      Tbl.ext fun p => (Tbl.get_mapIdx ..).trans (loseGate_closed (closed p))
    rw [referenceLost_error point, if_neg none, mapRecs, records]
    rfl
  · exact referenceLost_other point

end Reference

/-- Settles O46. -/
theorem theReferenceIsCountedWhilePresent : Obligations.TheReferenceIsCountedWhilePresent := by
  intro s
  refine ⟨fun input spacing selected ample => ?_, fun input spacing other => ?_, fun waits => ?_, fun due => ?_⟩
  · exact congrArg Host.Outcome.next (if_pos ⟨selected, ample⟩)
  · refine congrArg Host.Outcome.next (if_neg fun ⟨selected, ample⟩ => ?_)
    rcases other with differs | close
    · exact differs selected
    · cases close.symm.trans ample
  · exact congrArg Host.Outcome.next (if_neg (mt (isDue_iff _).mp waits))
  · intro absent gateOpen errorPoint
    have expires : exec .presenceWindowExpiry s = .next (referenceLost absent) := congrArg Host.Outcome.next (if_pos (isDue_of_due due))
    refine ⟨fun calm => expires.trans (congrArg Host.Outcome.next ?_), fun point ⟨q, gate⟩ => ?_⟩
    · rcases calm with other | closed
      · exact referenceLost_other (s := absent) other
      · exact referenceLost_closed (s := absent) closed
    · have some_gate : anyRec absent gateIsOpen = true := (anyRec_iff _ _).mpr ⟨q, gateIsOpen_iff.mpr gate⟩
      refine ⟨mapRecs (fun _ => loseGate) absent, expires.trans (congrArg Host.Outcome.next
        ((referenceLost_error (s := absent) point).trans (if_pos some_gate))), mapRecs_frame absent _, rfl, fun p => ?_⟩
      rw [getRec_mapRecs]
      exact ⟨fun gate c context => loseGate_open (s := s) gate context, fun closed => loseGate_closed (s := s) closed⟩

/-! ## The point timer (R78, R80, R81) -/

section PointTimer
variable {s : State} {point : Point}

theorem expiryResult_eq (body : PointBody) (present : Bool) (c : Context) : expiryResult body present c = match body with
    | .error .. => errorResult (if present then .noPulse else .noReference) c
    | .start .. => ⟨.fail, .start, 0, some c.pulses, none, false⟩
    | .creep .. => ⟨.pass, .creep, 0, some c.pulses, none, false⟩ := by
  cases body <;> rfl

/-- Every member with the outcome the expiry gives it, and done (R78, R80, R81). -/
def expired (point : Point) (s : State) : State :=
  (mapRecs (fun _ => finishMember s.run.index (expiryResult point.body s.front.present))
    (s.setEngine { s.engine with timer := none })).setRun { s.run with done := s.run.members }

theorem pointExpiry_due (due : Due s.engine.timer) (measures : s.engine.point = some s.run.index)
    (at_index : s.plan[s.run.index]? = some point) : pointExpiry s = membersChanged (expired point s) := by
  have current : currentPoint s = some point := at_index
  unfold pointExpiry
  split
  · next i point' _ at_i at_point =>
    cases measures.symm.trans at_i
    cases current.symm.trans at_point
    exact congrArg membersChanged rfl
  · next other => exact absurd current (other _ _ (isDue_of_due due) measures)

theorem pointExpiry_waits (waits : ¬Due s.engine.timer) : pointExpiry s = s := by
  simp only [pointExpiry, isDue_eq_false waits]

theorem getRec_expired (p : Pos) :
    getRec (expired point s) p = finishMember s.run.index (expiryResult point.body s.front.present) (getRec s p) :=
  getRec_mapRecs _ _ p

end PointTimer

/-- Settles O47. -/
theorem thePointTimerGivesTheRestTheirOutcome : Obligations.ThePointTimerGivesTheRestTheirOutcome := by
  intro s
  refine ⟨fun waits => congrArg Host.Outcome.next (pointExpiry_waits waits), fun point due measures at_index => ?_⟩
  refine ⟨expired point s, congrArg Host.Outcome.next (pointExpiry_due due measures at_index), ?_, rfl, rfl, rfl,
    fun p => ⟨fun c active context open_ => ?_, fun other => ?_⟩⟩
  · exact ((setEngine_frame s _).comp (mapRecs_frame _ _) (ds := [.table, .engine])).comp (setRun_frame _ _)
  · have finished := (getRec_expired (point := point) p).trans (finishMember_open active context open_)
    rw [expiryResult_eq] at finished
    exact finished
  · exact (getRec_expired (point := point) p).trans (finishMember_other other)

end Sys2Proof.Machine
end

section
/-! PROOF. The panel's timers and lamps, and the sample instants (R46 to R51, R163, R167 to R174). -/

namespace Sys2Proof.Machine

/-! ## Timers and lamps (R167 to R174) -/

section Lamps
variable {s : State} {slot p : Pos}

theorem recordAppearance_eq (r : Record) : recordAppearance r = match r.state with
    | .vacant => ⟨false, false, .off⟩
    | .mounted => ⟨true, true, .slow⟩
    | .ready => ⟨true, true, .steady⟩
    | .active => ⟨true, true, .breathing⟩
    | .passed => if r.spoiled = none then ⟨false, true, .steady⟩ else ⟨true, false, .fast⟩
    | .failed => ⟨true, false, .steady⟩
    | .closing => ⟨false, true, .breathing⟩
    | .closed => if ∃ tag, r.closure = some tag ∧ tag.acknowledged = true then ⟨false, true, .quarter⟩ else ⟨false, true, .slow⟩ := by
  obtain ⟨state, identity, results, context, closure, spoiled⟩ := r
  cases state with
  | passed => cases spoiled <;> rfl
  | closed => exact if_congr (by rw [Option.any_eq_true]) rfl rfl
  | vacant | mounted | ready | active | failed | closing => rfl

theorem lampAppearance_eq (at_slot : slotOf s.settings.orient slot = p) : lampAppearance s slot =
    if s.panel.lampTest ≠ none then ⟨true, true, .steady⟩
    else if s.panel.flashes.get slot ≠ none then ⟨true, false, .fast⟩ else recordAppearance (getRec s p) := by
  simp only [lampAppearance, at_slot, Option.isSome_iff_ne_none]

theorem intensity_eq (pattern : Pattern) (peak t : Nat) : intensity pattern peak t = match pattern with
    | .off => 0
    | .steady => peak
    | .quarter => peak / 4
    | .slow => if t % 1000 < 500 then peak else 0
    | .fast => if t % 250 < 125 then peak else 0
    | .breathing => if t ≤ 999 then peak * t / 1000 else peak * (2000 - t) / 1000 := by
  cases pattern with
  | breathing => exact if_congr Nat.lt_succ_iff rfl rfl
  | off | steady | quarter | slow | fast => rfl

end Lamps

/-- Settles O50. -/
theorem panelTimersEndAndLampsShowTheRecords : Obligations.PanelTimersEndAndLampsShowTheRecords := by
  intro s
  refine ⟨fun due => ?_, fun waits => ?_, fun slot => ⟨fun due => ?_, fun waits => ?_⟩, fun due => ?_, fun waits => ?_,
    fun slot p mapped => ?_, fun a brightness t => ?_⟩
  · exact congrArg Host.Outcome.next (if_pos (isDue_of_due due))
  · exact congrArg Host.Outcome.next (if_neg (mt (isDue_iff _).mp waits))
  · exact congrArg Host.Outcome.next (if_pos (isDue_of_due due))
  · exact congrArg Host.Outcome.next (if_neg (mt (isDue_iff _).mp waits))
  · exact congrArg Host.Outcome.next (if_pos (isDue_of_due due))
  · exact congrArg Host.Outcome.next (if_neg (mt (isDue_iff _).mp waits))
  · have shows := lampAppearance_eq (s := s) (slotOf_eq mapped)
    rw [recordAppearance_eq] at shows
    exact shows
  · have drives : lampOf a brightness t = ⟨if a.red then duty (intensity a.pattern (17 * brightness) t) else 0,
        if a.green then duty (intensity a.pattern (17 * brightness) t) else 0⟩ := rfl
    rw [intensity_eq] at drives
    exact drives

end Sys2Proof.Machine
end

section
/-! PROOF. What an edge does not look at and does not change: the input filters, and who may become a member (R47 to R50). -/

namespace Sys2Proof.Machine

/-! ## What the run does not look at -/

/-- What of the part comes from outside, or only marks a line's sample, and how it is replaced: the link, the front end, the commands that
wait; of each line whether one differing sample has come, and the readings (R47, R112). -/
structure Outside where
  link : Link → Link := id
  front : Front → Front := id
  commands : List Instr → List Instr := id
  srcReady : Bool → Bool := id
  phaseLine : Bool → Bool := id
  doneLine : Bool → Bool := id
  home : Bool → Bool := id
  pressDone : Bool → Bool := id
  phaseReading : Bool → Bool := id
  doneReading : Bool → Bool := id

/-- The filter with its mark of one differing sample replaced. -/
def remark (mark : Bool → Bool) (f : Filter) : Filter := { f with pending := mark f.pending }

/-- The part with what is `Outside` replaced. -/
def outside (w : Outside) (s : State) : State :=
  { s with
    link := w.link s.link, front := w.front s.front, pending := w.commands s.pending
    run := { s.run with
      srcReady := remark w.srcReady s.run.srcReady, phaseLine := remark w.phaseLine s.run.phaseLine
      doneLine := remark w.doneLine s.run.doneLine
      phaseReading := w.phaseReading s.run.phaseReading, doneReading := w.doneReading s.run.doneReading }
    closure := { s.closure with home := remark w.home s.closure.home, pressDone := remark w.pressDone s.closure.pressDone } }

section Outside
variable (w : Outside) (s : State)

theorem outside_ite (c : Prop) [Decidable c] (a b : State) :
    outside w (if c then a else b) = if c then outside w a else outside w b := by split <;> rfl

theorem currentPoint_outside : currentPoint (outside w s) = currentPoint s := rfl

theorem breakOff_outside (ending : Ending) : breakOff ending (outside w s) = outside w (breakOff ending s) := by
  simp only [breakOff, lowerPhase_eq]
  rfl

theorem abortRun_outside : abortRun (outside w s) = outside w (abortRun s) := by
  simp only [abortRun, ← breakOff_outside]
  rfl

theorem enterMeasuring_outside : enterMeasuring (outside w s) = outside w (enterMeasuring s) := by
  unfold enterMeasuring
  rw [currentPoint_outside]
  cases currentPoint s with
  | none => rfl
  | some point =>
    have role : (startMeasurement point (outside w s)).straps.role = (startMeasurement point s).straps.role := rfl
    simp only [role]
    cases (startMeasurement point s).straps.role <;> rfl

theorem settleOver_outside : settleOver (outside w s) = outside w (settleOver s) := by
  unfold settleOver
  simp only [outside_ite, ← enterMeasuring_outside]
  rfl

theorem enterSettling_outside : enterSettling (outside w s) = outside w (enterSettling s) := by
  unfold enterSettling
  rw [currentPoint_outside]
  cases currentPoint s with
  | none => rfl
  | some point =>
    simp only [outside_ite, ← settleOver_outside]
    rfl

theorem lookAtSource_outside : lookAtSource (outside w s) = outside w (lookAtSource s) := by
  unfold lookAtSource
  rw [outside_ite, ← enterSettling_outside]
  rfl

theorem enterSourcing_outside : enterSourcing (outside w s) = outside w (enterSourcing s) := by
  unfold enterSourcing
  rw [currentPoint_outside]
  cases currentPoint s with
  | none => rfl
  | some point =>
    simp only [outside_ite, ← lookAtSource_outside]
    rfl

theorem afterPoint_outside : afterPoint (outside w s) = outside w (afterPoint s) := by
  unfold afterPoint
  rw [outside_ite, outside_ite, ← enterSourcing_outside]
  rfl

theorem endPoint_outside : endPoint (outside w s) = outside w (endPoint s) := by
  unfold endPoint
  simp only [lowerPhase_eq, ← afterPoint_outside]
  rfl

theorem membersChanged_outside : membersChanged (outside w s) = outside w (membersChanged s) := by
  have role : (outside w s).straps.role = s.straps.role := rfl
  unfold membersChanged
  rw [role]
  cases s.straps.role with
  | slave => rfl
  | solo | master =>
    rw [outside_ite, ← endPoint_outside]
    rfl

theorem memberDone_outside (p : Pos) : memberDone p (outside w s) = outside w (memberDone p s) :=
  membersChanged_outside w (s.setRun { s.run with done := s.run.done.insert p })

theorem applyEdge_outside (p : Pos) (i : Nat) (effect : EdgeEffect) :
    applyEdge p i effect (outside w s) = outside w (applyEdge p i effect s) := by
  cases effect with
  | going c => rfl
  | finished c result =>
    simp only [applyEdge, ← memberDone_outside]
    rfl

end Outside

/-! ## What the run keeps -/

/-- The filters of the run's lines. -/
def runLines (r : Run) : Filter × Filter × Filter := (r.srcReady, r.phaseLine, r.doneLine)

/-- Every position keeps its meter, none has become ACTIVE, and the run's lines are filtered as they were. -/
structure RunKeeps (s t : State) : Prop where
  meter : ∀ p, (getRec t p).identity = (getRec s p).identity
  joins : ∀ p, (getRec t p).state = .active → (getRec s p).state = .active
  lines : runLines t.run = runLines s.run

section Keeps
variable {s t u : State}

theorem RunKeeps.of_table (table : t.table = s.table) (lines : runLines t.run = runLines s.run) : RunKeeps s t where
  meter p := by rw [getRec_congr table]
  joins p := by rw [getRec_congr table]; exact id
  lines := lines

theorem RunKeeps.refl (s : State) : RunKeeps s s := .of_table rfl rfl

theorem RunKeeps.trans (h : RunKeeps s t) (k : RunKeeps t u) : RunKeeps s u where
  meter p := (k.meter p).trans (h.meter p)
  joins p active := h.joins p (k.joins p active)
  lines := k.lines.trans h.lines

theorem RunKeeps.ite {c : Prop} [Decidable c] (h : RunKeeps s t) (k : RunKeeps s u) : RunKeeps s (if c then t else u) := by
  split
  · exact h
  · exact k

theorem RunKeeps.mapRecs {f : Pos → Record → Record} (meter : ∀ p r, (f p r).identity = r.identity)
    (joins : ∀ p r, (f p r).state = .active → r.state = .active) : RunKeeps s (mapRecs f s) where
  meter p := by rw [getRec_mapRecs]; exact meter p _
  joins p := by rw [getRec_mapRecs]; exact joins p _
  lines := rfl

theorem RunKeeps.putRec {p : Pos} {r : Record} (meter : r.identity = (getRec s p).identity)
    (joins : r.state = .active → (getRec s p).state = .active) : RunKeeps s (putRec s p r) where
  meter q := by
    rw [getRec_putRec]
    split
    · next at_p => exact at_p ▸ meter
    · rfl
  joins q := by
    rw [getRec_putRec]
    split
    · next at_p => exact at_p ▸ joins
    · exact id
  lines := rfl

theorem runKeeps_formVerdicts (s : State) : RunKeeps s (formVerdicts s) := by
  refine .mapRecs (fun p r => ?_) (fun p r => ?_)
  · split <;> rfl
  · split
    · intro active
      split at active <;> cases active
    · exact id

theorem runKeeps_completeRun (s : State) : RunKeeps s (completeRun s) := (runKeeps_formVerdicts s).trans (.of_table rfl rfl)

theorem runKeeps_startMeasurement (point : Point) (s : State) : RunKeeps s (startMeasurement point s) := by
  refine RunKeeps.trans (t := mapRecs (fun _ r => if r.state = .active then { r with context := some freshContext } else r) s)
    (.mapRecs (fun p r => ?_) (fun p r => ?_)) (.of_table rfl rfl)
  · split <;> rfl
  · split <;> exact id

theorem runKeeps_enterMeasuring (s : State) : RunKeeps s (enterMeasuring s) := by
  unfold enterMeasuring
  split
  · exact .refl s
  · next point _ =>
    refine (runKeeps_startMeasurement point s).trans ?_
    simp only
    split <;> exact .of_table rfl rfl

theorem runKeeps_settleOver (s : State) : RunKeeps s (settleOver s) :=
  .ite (.of_table rfl rfl) (RunKeeps.trans (t := s.setRun { s.run with settle := none }) (.of_table rfl rfl) (runKeeps_enterMeasuring _))

theorem runKeeps_enterSettling (s : State) : RunKeeps s (enterSettling s) := by
  unfold enterSettling
  split
  · exact .refl s
  · exact .ite (RunKeeps.trans (t := s.setRun { s.run with state := .settling, latency := none, source := none }) (.of_table rfl rfl)
      (runKeeps_settleOver _)) (.of_table rfl rfl)

theorem runKeeps_lookAtSource (s : State) : RunKeeps s (lookAtSource s) := .ite (runKeeps_enterSettling s) (.of_table rfl rfl)

theorem runKeeps_enterSourcing (s : State) : RunKeeps s (enterSourcing s) := by
  unfold enterSourcing
  split
  · exact .refl s
  · next point _ =>
    exact .ite (RunKeeps.trans (t := s.setRun { s.run with
      state := .sourcing .latency, load := point.load, source := startTimer (s.settings.srcTimeout * 1000) }) (.of_table rfl rfl)
      (runKeeps_lookAtSource _)) (.of_table rfl rfl)

theorem runKeeps_afterPoint (s : State) : RunKeeps s (afterPoint s) :=
  .ite (runKeeps_completeRun s)
    (.ite (.of_table rfl rfl) (RunKeeps.trans (t := s.setRun (nextPoint s.run)) (.of_table rfl rfl) (runKeeps_enterSourcing _)))

theorem runLines_lowerPhase (r : Run) : runLines (lowerPhase r) = runLines r := by
  rw [lowerPhase_eq]
  rfl

theorem runKeeps_endPoint (s : State) : RunKeeps s (endPoint s) := by
  refine RunKeeps.trans (RunKeeps.of_table ?_ ?_) (runKeeps_afterPoint _)
  · rfl
  · exact runLines_lowerPhase _

theorem runKeeps_membersChanged (s : State) : RunKeeps s (membersChanged s) := by
  have ends : RunKeeps s (endPoint (stopEngine s)) := RunKeeps.trans (t := stopEngine s) (.of_table rfl rfl) (runKeeps_endPoint _)
  unfold membersChanged
  split
  · exact .of_table rfl rfl
  · exact .ite ends (.refl s)

theorem runKeeps_memberDone (p : Pos) (s : State) : RunKeeps s (memberDone p s) :=
  RunKeeps.trans (t := s.setRun { s.run with done := s.run.done.insert p }) (.of_table rfl rfl) (runKeeps_membersChanged _)

theorem runKeeps_applyEdge (p : Pos) (i : Nat) (effect : EdgeEffect) (s : State) : RunKeeps s (applyEdge p i effect s) := by
  cases effect with
  | going c => exact .putRec rfl id
  | finished c result =>
    have put : RunKeeps s (putRec s p { getRec s p with
      results := (getRec s p).results.set i result, context := some { c with phase := .done } }) := .putRec rfl id
    exact put.trans (runKeeps_memberDone p _)

theorem runKeeps_deliverEdge (p : Pos) (s : State) : RunKeeps s (deliverEdge p s) := by
  unfold deliverEdge
  simp only
  split
  · exact .ite (runKeeps_applyEdge _ _ _ s) (.refl s)
  · exact .refl s

end Keeps

/-! ## An edge does not look at the filters -/

/-- The part with the filters of the meter inputs replaced. -/
def withFilters (filters : Tbl 48 Filter) (s : State) : State := s.setFront { s.front with filters := filters }

section Filters
variable {s : State} {p : Pos}

theorem deliverEdge_front (p : Pos) (s : State) : (deliverEdge p s).front = s.front := (deliverEdge_frame s p).2 .front (by decide)

theorem deliverEdge_withFilters (filters : Tbl 48 Filter) (p : Pos) (s : State) :
    deliverEdge p (withFilters filters s) = withFilters filters (deliverEdge p s) := by
  have record : getRec (withFilters filters s) p = getRec s p := rfl
  have current : currentPoint (withFilters filters s) = currentPoint s := rfl
  have engine : (withFilters filters s).engine = s.engine := rfl
  have as_outside : withFilters filters = outside { front := fun front => { front with filters := filters } } := rfl
  simp only [deliverEdge, record, current, engine]
  rw [as_outside]
  split
  · rw [outside_ite, ← applyEdge_outside]
    rfl
  · rfl

end Filters

end Sys2Proof.Machine
end

section
/-! PROOF. The sample instants (R46 to R51). -/

namespace Sys2Proof.Machine

/-! ## Filters (R47, R48) -/

section Filter
variable {f : Filter} {sample : Bool}

theorem confirms_iff : confirms f sample = true ↔ Confirming f sample := by
  simp [confirms, Confirming, and_assoc]

theorem sampleFilter_eq (f : Filter) (sample : Bool) : sampleFilter f sample = filterAfter f sample := by
  obtain ⟨level, pending, seeded⟩ := f
  cases seeded <;> cases pending <;> cases level <;> cases sample <;> rfl

theorem filterAfter_confirming (h : Confirming f sample) : filterAfter f sample = confirmed sample := by
  obtain ⟨seeded, pending, differs⟩ := h
  simp [filterAfter, seeded, pending, differs, confirmed]

end Filter

/-! ## One slot's sample -/

/-- The slot's sample confirms a change in the sense of the position mapped to it (R47, R49). -/
def Turning (inputs : BitVec 48) (s : State) (slot : Pos) : Prop :=
  Confirming (s.front.filters.get slot) (inputs.getLsbD slot.val) ∧
    ∃ i, (getRec s (slotOf s.settings.orient slot)).identity = some i ∧ (i.sense = .rising ↔ inputs.getLsbD slot.val = true)

/-- The position mapped to the slot is a member (R50). -/
def Member (s : State) (slot : Pos) : Prop := (getRec s (slotOf s.settings.orient slot)).state = .active

section Sample
variable {inputs : BitVec 48} {s t : State} {slot y : Pos}

theorem sampleSlot_turning (turns : Turning inputs s slot) : sampleSlot inputs s slot = meterEdge slot s := by
  obtain ⟨confirming, i, mounted, sense⟩ := turns
  have at_level : decide (i.sense = .rising) = inputs.getLsbD slot.val := by rw [Bool.eq_iff_iff, decide_eq_true_iff, sense]
  rw [meterEdge_mounted rfl mounted, at_level]
  exact (if_pos (confirms_iff.mpr confirming)).trans ((slotChange_mounted rfl mounted).trans (if_pos at_level))

theorem sampleSlot_quiet (quiet : ¬Turning inputs s slot ∨ ¬Member s slot) :
    sampleSlot inputs s slot = putFilter slot (filterAfter (s.front.filters.get slot) (inputs.getLsbD slot.val)) s := by
  by_cases confirming : Confirming (s.front.filters.get slot) (inputs.getLsbD slot.val)
  · refine (if_pos (confirms_iff.mpr confirming)).trans ?_
    rw [filterAfter_confirming confirming]
    cases mounted : (getRec s (slotOf s.settings.orient slot)).identity with
    | none => exact slotChange_vacant rfl mounted
    | some i =>
      refine (slotChange_mounted rfl mounted).trans ?_
      split
      · next sense =>
        have turns : Turning inputs s slot := ⟨confirming, i, mounted, by rw [← sense, decide_eq_true_iff]⟩
        exact deliverEdge_unused (.inr (.inl (quiet.resolve_left (not_not_intro turns))))
      · rfl
  · refine (if_neg (mt confirms_iff.mp confirming)).trans ?_
    rw [sampleFilter_eq]

theorem sampleSlot_front (inputs : BitVec 48) (s : State) (slot : Pos) : (sampleSlot inputs s slot).front =
    { s.front with filters := s.front.filters.set slot (filterAfter (s.front.filters.get slot) (inputs.getLsbD slot.val)) } := by
  by_cases turns : Turning inputs s slot
  · have edge := sampleSlot_turning turns
    obtain ⟨confirming, i, mounted, sense⟩ := turns
    have at_level : decide (i.sense = .rising) = inputs.getLsbD slot.val := by rw [Bool.eq_iff_iff, decide_eq_true_iff, sense]
    rw [edge, meterEdge_mounted rfl mounted, deliverEdge_front, filterAfter_confirming confirming, at_level]
    rfl
  · rw [sampleSlot_quiet (.inl turns)]
    rfl

theorem runKeeps_meterEdge (slot : Pos) (s : State) : RunKeeps s (meterEdge slot s) := by
  cases mounted : (getRec s (slotOf s.settings.orient slot)).identity with
  | none => rw [meterEdge_vacant rfl mounted]; exact .refl s
  | some i =>
    rw [meterEdge_mounted rfl mounted]
    exact RunKeeps.trans (t := putFilter slot (confirmed (decide (i.sense = .rising))) s) (.of_table rfl rfl) (runKeeps_deliverEdge _ _)

theorem meterEdge_settings (slot : Pos) (s : State) : (meterEdge slot s).settings = s.settings := by
  cases mounted : (getRec s (slotOf s.settings.orient slot)).identity with
  | none => rw [meterEdge_vacant rfl mounted]
  | some i =>
    rw [meterEdge_mounted rfl mounted]
    exact (deliverEdge_frame (putFilter slot (confirmed (decide (i.sense = .rising))) s) _).2 .settings (by decide)

theorem meterEdge_front (slot : Pos) (s : State) : ∃ filters, (meterEdge slot s).front = { s.front with filters := filters } := by
  cases mounted : (getRec s (slotOf s.settings.orient slot)).identity with
  | none => exact ⟨s.front.filters, congrArg State.front (meterEdge_vacant rfl mounted)⟩
  | some i =>
    rw [meterEdge_mounted rfl mounted, deliverEdge_front]
    exact ⟨_, rfl⟩

/-- Another slot's sample makes no slot turn that did not, nor its position a member. -/
theorem sampleSlot_keeps (inputs : BitVec 48) (s : State) (slot : Pos) : RunKeeps s (sampleSlot inputs s slot) ∧
    (sampleSlot inputs s slot).settings = s.settings := by
  by_cases turns : Turning inputs s slot
  · rw [sampleSlot_turning turns]
    exact ⟨runKeeps_meterEdge slot s, meterEdge_settings slot s⟩
  · rw [sampleSlot_quiet (.inl turns)]
    exact ⟨.of_table rfl rfl, rfl⟩

theorem turning_sampleSlot (other : y ≠ slot) : Turning inputs (sampleSlot inputs s slot) y ↔ Turning inputs s y := by
  obtain ⟨keeps, settings⟩ := sampleSlot_keeps inputs s slot
  have filter : (sampleSlot inputs s slot).front.filters.get y = s.front.filters.get y := by
    rw [sampleSlot_front]
    exact Tbl.get_set_ne _ other _
  rw [Turning, Turning, filter, settings, keeps.meter]

theorem member_of_sampleSlot (member : Member (sampleSlot inputs s slot) y) : Member s y := by
  obtain ⟨keeps, settings⟩ := sampleSlot_keeps inputs s slot
  rw [Member, settings] at member
  exact keeps.joins _ member

end Sample

/-! ## All slots' samples -/

/-- The edges of the slots, one after another. -/
def edges (slots : List Pos) (s : State) : State := slots.foldl (fun s slot => meterEdge slot s) s

/-- The filters of `s` once the slots have been sampled. -/
def filtersAfter (inputs : BitVec 48) (slots : List Pos) (s : State) : Tbl 48 Filter := Tbl.ofFn fun slot =>
  if slot ∈ slots then filterAfter (s.front.filters.get slot) (inputs.getLsbD slot.val) else s.front.filters.get slot

section Samples
variable {inputs : BitVec 48} {s : State}

theorem execAll_edges (slots : List Pos) (s : State) : execAll (slots.map .meterEdge) s = .next (edges slots s) := by
  induction slots generalizing s with
  | nil => rfl
  | cons slot slots ih => exact (execAll_cons rfl).trans (ih (meterEdge slot s))

theorem meterEdge_withFilters (filters : Tbl 48 Filter) (slot : Pos) (s : State) :
    ∃ after, meterEdge slot (withFilters filters s) = withFilters after (meterEdge slot s) := by
  cases mounted : (getRec s (slotOf s.settings.orient slot)).identity with
  | none =>
    rw [meterEdge_vacant rfl mounted, meterEdge_vacant (s := withFilters filters s) rfl mounted]
    exact ⟨filters, rfl⟩
  | some i =>
    refine ⟨filters.set slot (confirmed (decide (i.sense = .rising))), ?_⟩
    rw [meterEdge_mounted rfl mounted, meterEdge_mounted (s := withFilters filters s) rfl mounted]
    have blind := fun filters : Tbl 48 Filter => deliverEdge_withFilters filters (slotOf s.settings.orient slot) s
    exact (blind _).trans (congrArg (withFilters _) (blind (s.front.filters.set slot (confirmed (decide (i.sense = .rising)))))).symm

theorem edges_withFilters (filters : Tbl 48 Filter) (slots : List Pos) (s : State) :
    ∃ after, edges slots (withFilters filters s) = withFilters after (edges slots s) := by
  induction slots generalizing s filters with
  | nil => exact ⟨filters, rfl⟩
  | cons slot slots ih =>
    obtain ⟨after, edge⟩ := meterEdge_withFilters filters slot s
    obtain ⟨last, rest⟩ := ih after (meterEdge slot s)
    exact ⟨last, (congrArg (edges slots) edge).trans rest⟩

theorem filtersAfter_cons {slot : Pos} {slots : List Pos} (fresh : slot ∉ slots) :
    filtersAfter inputs slots (sampleSlot inputs s slot) = filtersAfter inputs (slot :: slots) s := by
  refine Tbl.ext fun y => ?_
  rw [filtersAfter, filtersAfter, Tbl.get_ofFn, Tbl.get_ofFn, sampleSlot_front]
  by_cases at_slot : y = slot
  · subst at_slot
    simp [fresh, Tbl.get_set_self]
  · simp [at_slot, Tbl.get_set_ne _ at_slot]

/-- Sampling the slots one after another delivers the edges of those that turn at members, and leaves every filter read (R46). -/
theorem foldl_sampleSlot (b : Pos → Bool) (slots : List Pos) (s : State) (once : slots.Nodup)
    (turns : ∀ y ∈ slots, b y = true → Turning inputs s y)
    (quiet : ∀ y ∈ slots, ¬b y = true → ¬Turning inputs s y ∨ ¬Member s y) :
    slots.foldl (sampleSlot inputs) s = withFilters (filtersAfter inputs slots s) (edges (slots.filter b) s) := by
  induction slots generalizing s with
  | nil =>
    have read : filtersAfter inputs [] s = s.front.filters := Tbl.ext fun y => by rw [filtersAfter, Tbl.get_ofFn, if_neg List.not_mem_nil]
    rw [read]
    rfl
  | cons slot slots ih =>
    obtain ⟨fresh, once⟩ := List.nodup_cons.mp once
    have other : ∀ {y}, y ∈ slots → y ≠ slot := fun mem at_slot => fresh (at_slot ▸ mem)
    have rest := ih (sampleSlot inputs s slot) once
      (fun y mem chosen => (turning_sampleSlot (other mem)).mpr (turns y (List.mem_cons_of_mem _ mem) chosen))
      (fun y mem passed => (quiet y (List.mem_cons_of_mem _ mem) passed).imp (mt (turning_sampleSlot (other mem)).mp) (mt member_of_sampleSlot))
    rw [List.foldl_cons, rest, filtersAfter_cons fresh]
    by_cases chosen : b slot = true
    · rw [List.filter_cons_of_pos chosen, sampleSlot_turning (turns slot List.mem_cons_self chosen)]
      rfl
    · rw [List.filter_cons_of_neg chosen, sampleSlot_quiet (quiet slot List.mem_cons_self chosen)]
      obtain ⟨after, same⟩ := edges_withFilters (s.front.filters.set slot (filterAfter (s.front.filters.get slot)
        (inputs.getLsbD slot.val))) (slots.filter b) s
      exact (congrArg (withFilters _) same).trans rfl

theorem edges_keeps (slots : List Pos) (s : State) : (edges slots s).settings = s.settings ∧
    ∃ filters, (edges slots s).front = { s.front with filters := filters } := by
  induction slots generalizing s with
  | nil => exact ⟨rfl, s.front.filters, rfl⟩
  | cons slot slots ih =>
    obtain ⟨settings, filters, front⟩ := ih (meterEdge slot s)
    obtain ⟨here, read⟩ := meterEdge_front slot s
    rw [read] at front
    exact ⟨settings.trans (meterEdge_settings slot s), filters, front⟩

/-- A sample instant is the edges of the slots that turn at members, in the order of the slots, with every filter read (R46, R51). -/
theorem sampleAll_eq {slots : List Pos} (ordered : slots.Pairwise (· < ·))
    (mem : ∀ slot, slot ∈ slots ↔ Turning inputs s slot ∧ Member s slot) : sampleAll inputs s =
      { edges slots s with front := { (edges slots s).front with
        filters := Tbl.ofFn fun slot => filterAfter (s.front.filters.get slot) (inputs.getLsbD slot.val)
        rateNow := s.settings.sampleRate } } := by
  have chosen : (List.finRange 48).filter (fun slot => decide (slot ∈ slots)) = slots :=
    ((List.pairwise_lt_finRange 48).filter _).eq_of_mem_iff ordered fun slot => by simp
  have every : filtersAfter inputs (List.finRange 48) s =
      Tbl.ofFn fun slot => filterAfter (s.front.filters.get slot) (inputs.getLsbD slot.val) :=
    Tbl.ext fun slot => by rw [filtersAfter, Tbl.get_ofFn, Tbl.get_ofFn, if_pos (List.mem_finRange slot)]
  have sampled := foldl_sampleSlot (inputs := inputs) (fun slot => decide (slot ∈ slots)) (List.finRange 48) s (List.nodup_finRange 48)
    (fun slot _ chosen => ((mem slot).mp (of_decide_eq_true chosen)).1)
    (fun slot _ passed => not_and_or.mp (mt (mem slot).mpr (by simpa using passed)))
  rw [chosen, every] at sampled
  have settings := (edges_keeps slots s).1
  unfold sampleAll
  rw [sampled, ← settings]
  rfl

end Samples

/-- Settles O48. -/
theorem samplesConfirmLevelsAndDeliverEdges : Obligations.SamplesConfirmLevelsAndDeliverEdges := by
  classical
  intro inputs s edgeAt filters
  have edgeAt_iff : ∀ slot, edgeAt slot ↔ Turning inputs s slot ∧ Member s slot := fun slot =>
    ⟨fun ⟨confirming, active, i, mounted, sense⟩ => ⟨⟨confirming, i, mounted, sense⟩, active⟩,
      fun ⟨⟨confirming, i, mounted, sense⟩, active⟩ => ⟨confirming, active, i, mounted, sense⟩⟩
  have samples : ∀ slots : List Pos, slots.Pairwise (· < ·) → (∀ slot, slot ∈ slots ↔ edgeAt slot) → exec (.sampleInstant inputs) s =
      .next { edges slots s with front := { (edges slots s).front with filters := filters, rateNow := s.settings.sampleRate } } :=
    fun slots ordered mem => congrArg Host.Outcome.next (sampleAll_eq ordered fun slot => (mem slot).trans (edgeAt_iff slot))
  refine ⟨?_, fun none => ?_, fun slots ordered mem => ⟨_, execAll_edges slots s, samples slots ordered mem⟩⟩
  · have all := samples ((List.finRange 48).filter fun slot => decide (edgeAt slot)) ((List.pairwise_lt_finRange 48).filter _)
      fun slot => by simp
    obtain ⟨-, read, front⟩ := edges_keeps ((List.finRange 48).filter fun slot => decide (edgeAt slot)) s
    have counter := congrArg Front.counter front
    have present := congrArg Front.present front
    have window := congrArg Front.window front
    exact ⟨_, all, rfl, rfl, counter, present, window⟩
  · exact samples [] .nil fun slot => by simp [none slot]

end Sys2Proof.Machine
end

section
/-! PROOF. Keys act as the requests they stand for (R23, R135, R164 to R170, R175). -/

namespace Sys2Proof.Machine

/-! ## What the closure unit and the shared requests do not look at -/

section Outside
variable (w : Outside) (s : State) (p : Pos)

theorem noteStockFall_outside (before : Nat) : noteStockFall before (outside w s) = outside w (noteStockFall before s) := by
  unfold noteStockFall
  simp only [outside_ite]
  rfl

theorem firePress_outside (target : Nat) : firePress target (outside w s) = outside w (firePress target s) := by
  cases drawn : drawSlot s.stock with
  | none =>
    simp only [firePress, drawn, show (outside w s).stock = s.stock from rfl]
  | some i =>
    rw [firePress_eq drawn, firePress_eq (s := outside w s) drawn, ← noteStockFall_outside]
    rfl

theorem dwellOver_outside (target : Nat) : dwellOver target (outside w s) = outside w (dwellOver target s) := by
  cases queue : s.closure.queue with
  | nil =>
    simp only [dwellOver, queue, show (outside w s).closure.queue = s.closure.queue from rfl]
  | cons head rest =>
    by_cases stuck : s.closure.pressDone.level = true
    · rw [dwellOver_stuck queue stuck, dwellOver_stuck (s := outside w s) queue stuck]
      rfl
    · have free := Bool.eq_false_iff.mpr stuck
      rw [dwellOver_free queue free, dwellOver_free (s := outside w s) queue free, firePress_outside]

theorem arrive_outside (m : Move) : arrive m (outside w s) = outside w (arrive m s) := by
  unfold arrive
  simp only [outside_ite, ← dwellOver_outside]
  rfl

theorem serve_outside (same : cancelWaits (outside w s) = cancelWaits s) : serve (outside w s) = outside w (serve s) := by
  have unit : (outside w s).closure.unit = s.closure.unit := rfl
  have queue : (outside w s).closure.queue = s.closure.queue := rfl
  unfold serve
  rw [unit, queue]
  split
  · simp only [same, outside_ite, ← arrive_outside]
    rfl
  · rfl

theorem closePosition_outside (same : ∀ c, cancelWaits ((outside w s).setClosure c) = cancelWaits (s.setClosure c)) :
    closePosition p (outside w s) = (outside w (closePosition p s).1, (closePosition p s).2) := by
  have refusal : closeRefusal p (outside w s) = closeRefusal p s := rfl
  cases refused : closeRefusal p s with
  | some st => rw [closePosition_refused refused, closePosition_refused (refusal.trans refused)]
  | none =>
    rw [closePosition_open refused, closePosition_open (refusal.trans refused)]
    exact congrArg (·, Status.ok) (serve_outside w ((putRec s p { getRec s p with state := .closing }).setClosure { s.closure with
      queue := s.closure.queue ++ [p] }) (same _))

theorem confirmPosition_outside : confirmPosition p (outside w s) = (outside w (confirmPosition p s).1, (confirmPosition p s).2) := by
  unfold confirmPosition
  have record : getRec (outside w s) p = getRec s p := rfl
  simp only [record]
  split <;> rfl

theorem retirePosition_outside : retirePosition p (outside w s) = (outside w (retirePosition p s).1, (retirePosition p s).2) := by
  have record : getRec (outside w s) p = getRec s p := rfl
  unfold retirePosition
  rw [record]
  split <;> rfl

theorem holdRun_outside : holdRun (outside w s) = (outside w (holdRun s).1, (holdRun s).2) := by
  have straps : (outside w s).straps = s.straps := rfl
  have state : (outside w s).run.state = s.run.state := rfl
  unfold holdRun
  rw [straps, state]
  split
  · rfl
  · split <;> rfl

theorem resumeRun_outside : resumeRun (outside w s) = (outside w (resumeRun s).1, (resumeRun s).2) := by
  have straps : (outside w s).straps = s.straps := rfl
  have state : (outside w s).run.state = s.run.state := rfl
  unfold resumeRun
  rw [straps, state]
  split
  · rfl
  · split
    · simp only [← enterSourcing_outside, outside_ite]
      rfl
    · rfl

theorem requestAbort_outside : requestAbort (outside w s) = outside w (requestAbort s) := by
  unfold requestAbort
  rw [outside_ite, ← abortRun_outside]
  rfl

end Outside

/-! ## A request the panel makes (R23, R168) -/

/-- The part a key's request is asked of: the key pressed, the receiver free, and nothing waiting that could not be taken (R139). -/
def asked (k : Fin 56) (s : State) : State := { pressed k s with
  link := { s.link with receiver := .idle }, pending := if CanTake s then s.pending else [] }

section Asked
variable {s : State} {k : Fin 56} {p : Pos} {code : Nat} {op : State → State × Status}

/-- A shared operation asked for by a request does what it does for the key, and the request carries its status (R23). -/
theorem request_asked {bs : List Block} (frame : OnlyChanges bs (pressed k s) (op (pressed k s)).1) (no_link : .link ∉ bs)
    (blind : ∀ l : Link, l.receiver = .idle → op ((asked k s).setLink l) =
      ({ (op (pressed k s)).1 with link := l, pending := (asked k s).pending }, (op (pressed k s)).2)) :
    ∃ u, request .addressed code (fun t => answer (op t).2 (op t).1) (asked k s) = u ∧
      u.link.response = some ⟨(op (pressed k s)).2, []⟩ ∧ { u with link := s.link, pending := s.pending } = (op (pressed k s)).1 := by
  have taken := blind (takenLink (asked k s).link) rfl
  have link : (op (pressed k s)).1.link = s.link := frame.2 .link no_link
  have pending : (op (pressed k s)).1.pending = s.pending := frame.1
  have free : ¬(asked k s).link.receiver = .responding := nofun
  refine ⟨_, rfl, ?_, ?_⟩
  · rw [request, if_neg free]
    simp only [taken]
    rfl
  · rw [request, if_neg free, ← link, ← pending]
    simp only [taken]
    rfl

/-- Whether a CLOSE_CANCEL comes together with service is the same for the key as for the request it stands for (R139). -/
theorem cancelWaits_asked {l : Link} (idle : l.receiver = .idle) (t : State) (link : t.link = s.link) (pending : t.pending = s.pending) :
    cancelWaits { t with link := l, pending := (asked k s).pending } = cancelWaits t := by
  by_cases take : CanTake s
  · have waits : (asked k s).pending = t.pending := (if_pos take).trans pending.symm
    rw [waits]
    exact cancelWaits_setLink t l (iff_of_false (by simp [idle]) (by rw [link]; exact take))
  · have none : (asked k s).pending = [] := if_neg take
    have alone : ¬cancelWaits t = true := fun together => by
      obtain ⟨_, _, _, _, _, _, _, taken⟩ := (cancelWaits_iff t).mp together
      exact take (by rw [CanTake, ← link]; exact taken)
    rw [Bool.eq_false_iff.mpr alone, none]
    rfl

end Asked

/-! ## Keys (R164 to R168) -/

section Keys
variable {s : State} {k : Fin 56}

theorem confirmPress_eq (k : Fin 56) (s : State) : confirmPress k s = pressed k s := by
  unfold confirmPress restartMode pressed
  by_cases none : s.panel.mode = .none
  · rw [if_pos none]
    exact (if_pos none).trans rfl
  · rw [if_neg none]
    exact (if_neg none).trans rfl

theorem soleKeyDown_iff : soleKeyDown k s = true ↔ ∀ j, j ≠ k → (s.panel.keys.get j).level = false := by
  simp [soleKeyDown, or_iff_not_imp_left]

theorem level_pressed {j : Fin 56} (other : j ≠ k) : ((pressed k s).panel.keys.get j).level = (s.panel.keys.get j).level :=
  congrArg Filter.level (Tbl.get_set_ne _ other _)

theorem pressKey_down (act : State → State) (down : (s.panel.keys.get k).level = true) : pressKey k act s = s := if_pos down

theorem pressKey_up (act : State → State) (up : (s.panel.keys.get k).level = false) :
    pressKey k act s = if ∀ j, j ≠ k → (s.panel.keys.get j).level = false then act (pressed k s) else pressed k s := by
  have sole : soleKeyDown k (pressed k s) = true ↔ ∀ j, j ≠ k → (s.panel.keys.get j).level = false :=
    soleKeyDown_iff.trans (forall_congr' fun j => imp_congr_right fun other => by rw [level_pressed other])
  refine (if_neg (by simp [up])).trans ?_
  simp only [confirmPress_eq]
  exact if_congr sole rfl rfl

theorem pressKey_acts (act : State → State) (up : AllKeysUp s) : pressKey k act s = act (pressed k s) :=
  (pressKey_up act (up k)).trans (if_pos fun j _ => up j)

theorem exec_keyRow (k : Fin 56) (s : State) : exec (keyRow k) s = .next (pressKey k (keyActs k) s) := by
  by_cases position : k.val < 48
  · have acts : keyActs k = positionKeyActs ⟨k.val, position⟩ := funext fun s => dif_pos position
    rw [keyRow, dif_pos position, acts]
    rfl
  · obtain ⟨n, inside⟩ := k
    have low : 48 ≤ n := not_lt.mp position
    interval_cases n <;> rfl

/-! ## Position keys (R168, R169, R175) -/

theorem loadKeyAt_eq (slot p : Pos) (s : State) : loadKeyAt slot p s =
    if (confirmPosition p s).2 = .ok then raiseOperator ⟨PosSet.single p, 0, 0⟩ (confirmPosition p s).1
    else startFlash slot (confirmPosition p s).1 := by
  unfold loadKeyAt
  split
  · next t ok => rw [ok, if_pos rfl]
  · next t st other ok => rw [ok, if_neg other]

theorem closeKeyAt_eq (slot p : Pos) (s : State) : closeKeyAt slot p s =
    if (closePosition p s).2 = .ok then (closePosition p s).1 else startFlash slot (closePosition p s).1 := by
  unfold closeKeyAt
  split
  · next t ok => rw [ok, if_pos rfl]
  · next t st other ok => rw [ok, if_neg other]

theorem removeKeyAt_eq (slot p : Pos) (s : State) : removeKeyAt slot p s =
    if (retirePosition p s).2 = .ok then raiseOperator ⟨0, PosSet.single p, 0⟩ (retirePosition p s).1
    else if (retirePosition p s).2 = .unreported then raiseOperator ⟨0, 0, PosSet.single p⟩ (startFlash slot (retirePosition p s).1)
    else startFlash slot (retirePosition p s).1 := by
  unfold removeKeyAt
  split
  · next t ok => rw [ok, if_pos rfl]
  · next t unreported => rw [unreported, if_neg nofun, if_pos rfl]
  · next t st other unreported ok => rw [ok, if_neg other, if_neg unreported]

theorem positionKeyActs_none (mode : s.panel.mode = .none) (slot : Pos) : positionKeyActs slot s = s := by
  simp only [positionKeyActs, mode]

theorem positionKeyActs_load {slot p : Pos} (mode : s.panel.mode = .load) (at_slot : slotOf s.settings.orient slot = p) :
    positionKeyActs slot s = loadKeyAt slot p s := by
  simp only [positionKeyActs, mode, at_slot]

theorem positionKeyActs_close {slot p : Pos} (mode : s.panel.mode = .close) (at_slot : slotOf s.settings.orient slot = p) :
    positionKeyActs slot s = closeKeyAt slot p s := by
  simp only [positionKeyActs, mode, at_slot]

theorem positionKeyActs_remove {slot p : Pos} (mode : s.panel.mode = .remove) (at_slot : slotOf s.settings.orient slot = p) :
    positionKeyActs slot s = removeKeyAt slot p s := by
  simp only [positionKeyActs, mode, at_slot]

/-! ## The end of a scan (R165) -/

theorem twoPow_inj {j : Fin 56} (same : BitVec.twoPow 56 k.val = BitVec.twoPow 56 j.val) : j = k := by
  have bit := congrArg (·.getLsbD j.val) same
  simp only [BitVec.getLsbD_twoPow, j.isLt, k.isLt, decide_true, Bool.true_and, decide_eq_true_eq] at bit
  exact (Fin.ext bit).symm

theorem actingKey_eq (open_ : s.panel.scanBarred = false) (pressed : s.panel.scanPresses = BitVec.twoPow 56 k.val)
    (sole : ∀ j, j ≠ k → (s.panel.keys.get j).level = false) : actingKey s = some k := by
  have acts : (s.panel.scanPresses == BitVec.twoPow 56 k.val && soleKeyDown k s) = true := by
    rw [Bool.and_eq_true, beq_iff_eq]
    exact ⟨pressed, soleKeyDown_iff.mpr sole⟩
  refine (if_neg (by simp [open_])).trans (List.find?_eq_some_iff_getElem.mpr ⟨acts, k.val, by simp, by simp, fun j below => ?_⟩)
  have inside : j < 56 := below.trans k.isLt
  have other : s.panel.scanPresses ≠ BitVec.twoPow 56 j := fun at_j =>
    (Fin.ne_of_lt (show (⟨j, inside⟩ : Fin 56) < k from below)) (twoPow_inj (pressed.symm.trans at_j))
  simp [other]

theorem actingKey_none (h : s.panel.scanBarred = true ∨
    ∀ k : Fin 56, s.panel.scanPresses = BitVec.twoPow 56 k.val → ∃ j, j ≠ k ∧ (s.panel.keys.get j).level = true) : actingKey s = none := by
  rcases h with barred | shared
  · exact if_pos barred
  · unfold actingKey
    split
    · rfl
    · refine List.find?_eq_none.mpr fun k _ acts => ?_
      rw [Bool.and_eq_true, beq_iff_eq] at acts
      obtain ⟨j, other, down⟩ := shared k acts.1
      rw [soleKeyDown_iff.mp acts.2 j other] at down
      cases down

end Keys

/-! ## Keys and requests (R23, R168) -/

section Asking
variable {s : State} {k : Fin 56} {p : Pos}

theorem exec_runHold_asked (k : Fin 56) (s : State) : ∃ u, exec (.runHold .addressed) (asked k s) = .next u ∧
    { u with link := s.link, pending := s.pending } = (holdRun (pressed k s)).1 := by
  obtain ⟨u, requested, -, back⟩ := request_asked (code := 0x41) (k := k) (holdRun_frame (pressed k s)) (by decide) fun l _ =>
    holdRun_outside { link := fun _ => l, commands := fun _ => (asked k s).pending } (pressed k s)
  exact ⟨u, congrArg Host.Outcome.next requested, back⟩

theorem exec_runResume_asked (k : Fin 56) (s : State) : ∃ u, exec (.runResume .addressed) (asked k s) = .next u ∧
    { u with link := s.link, pending := s.pending } = (resumeRun (pressed k s)).1 := by
  obtain ⟨u, requested, -, back⟩ := request_asked (code := 0x42) (k := k) (resumeRun_frame (pressed k s)) (by decide) fun l _ =>
    resumeRun_outside { link := fun _ => l, commands := fun _ => (asked k s).pending } (pressed k s)
  exact ⟨u, congrArg Host.Outcome.next requested, back⟩

theorem exec_runAbort_asked (k : Fin 56) (s : State) : ∃ u, exec (.runAbort .addressed) (asked k s) = .next u ∧
    { u with link := s.link, pending := s.pending } = requestAbort (pressed k s) := by
  obtain ⟨u, requested, -, back⟩ := request_asked (code := 0x43) (k := k) (op := fun t => (requestAbort t, .ok))
    (requestAbort_frame (pressed k s)) (by decide) fun l _ =>
      congrArg (·, Status.ok) (requestAbort_outside { link := fun _ => l, commands := fun _ => (asked k s).pending } (pressed k s))
  exact ⟨u, congrArg Host.Outcome.next requested, back⟩

theorem atPosition_byte {effect : Pos → State → State × Reply} (p : Pos) : atPosition (byte p.val) effect = effect p := by
  have at_p : (byte p.val).toNat = p.val := (byte_val p.val).trans (Nat.mod_eq_of_lt (by omega))
  funext t
  simp only [atPosition, posOfByte_eq_some at_p]

theorem request_asked_at {code : Nat} {op : Pos → State → State × Status} {bs : List Block}
    (frame : OnlyChanges bs (pressed k s) (op p (pressed k s)).1) (no_link : .link ∉ bs)
    (blind : ∀ l : Link, l.receiver = .idle → op p ((asked k s).setLink l) =
      ({ (op p (pressed k s)).1 with link := l, pending := (asked k s).pending }, (op p (pressed k s)).2)) :
    ∃ u, request .addressed code (atPosition (byte p.val) fun p t => answer (op p t).2 (op p t).1) (asked k s) = u ∧
      u.link.response = some ⟨(op p (pressed k s)).2, []⟩ ∧ { u with link := s.link, pending := s.pending } = (op p (pressed k s)).1 := by
  rw [atPosition_byte]
  exact request_asked frame no_link blind

theorem exec_confirm_asked (k : Fin 56) (p : Pos) (s : State) : ∃ u, exec (.confirm .addressed (byte p.val)) (asked k s) = .next u ∧
    u.link.response = some ⟨(confirmPosition p (pressed k s)).2, []⟩ ∧
    { u with link := s.link, pending := s.pending } = (confirmPosition p (pressed k s)).1 := by
  obtain ⟨u, requested, answered⟩ := request_asked_at (code := 0x21) (k := k) (op := confirmPosition) (confirmPosition_frame (pressed k s) p) (by decide)
    fun l _ => confirmPosition_outside { link := fun _ => l, commands := fun _ => (asked k s).pending } (pressed k s) p
  exact ⟨u, congrArg Host.Outcome.next requested, answered⟩

theorem exec_close_asked (k : Fin 56) (p : Pos) (s : State) : ∃ u, exec (.close .addressed (byte p.val)) (asked k s) = .next u ∧
    u.link.response = some ⟨(closePosition p (pressed k s)).2, []⟩ ∧
    { u with link := s.link, pending := s.pending } = (closePosition p (pressed k s)).1 := by
  obtain ⟨u, requested, answered⟩ := request_asked_at (code := 0x53) (k := k) (op := closePosition) (closePosition_frame (pressed k s) p) (by decide)
    fun l idle => closePosition_outside { link := fun _ => l, commands := fun _ => (asked k s).pending } (pressed k s) p fun c =>
      cancelWaits_asked (k := k) idle ((pressed k s).setClosure c) rfl rfl
  exact ⟨u, congrArg Host.Outcome.next requested, answered⟩

theorem exec_retire_asked (k : Fin 56) (p : Pos) (s : State) : ∃ u, exec (.retire .addressed (byte p.val)) (asked k s) = .next u ∧
    u.link.response = some ⟨(retirePosition p (pressed k s)).2, []⟩ ∧
    { u with link := s.link, pending := s.pending } = (retirePosition p (pressed k s)).1 := by
  obtain ⟨u, requested, answered⟩ := request_asked_at (code := 0x25) (k := k) (op := retirePosition) (retirePosition_frame (pressed k s) p) (by decide)
    fun l _ => retirePosition_outside { link := fun _ => l, commands := fun _ => (asked k s).pending } (pressed k s) p
  exact ⟨u, congrArg Host.Outcome.next requested, answered⟩

theorem exec_positionKey (slot : Pos) (up : AllKeysUp s) : exec (.positionKey slot) s =
    .next (positionKeyActs slot (pressed ⟨slot.val, by omega⟩ s)) :=
  congrArg Host.Outcome.next (pressKey_acts (k := ⟨slot.val, by omega⟩) (positionKeyActs slot) up)

end Asking

/-- Settles O49. -/
theorem keysActAsTheirRequestsWhenAlone : Obligations.KeysActAsTheirRequestsWhenAlone := by
  intro s
  refine ⟨fun k down => ⟨(exec_keyRow k s).trans (congrArg Host.Outcome.next (pressKey_down _ down)), congrArg Host.Outcome.next (if_pos down)⟩,
    fun k up => ⟨?_, fun ⟨j, other, down⟩ => ?_⟩, fun k => ⟨fun ⟨seeded, up⟩ => ?_, fun change => congrArg Host.Outcome.next (lineEvent_of change)⟩,
    fun up => ?_, fun k up => (exec_keyRow k s).trans (congrArg Host.Outcome.next (pressKey_acts _ up)), ?_⟩
  · exact congrArg Host.Outcome.next ((if_neg (by simp [up])).trans (confirmPress_eq k s))
  · refine (exec_keyRow k s).trans (congrArg Host.Outcome.next ((pressKey_up _ up).trans (if_neg fun sole => ?_)))
    rw [sole j other] at down
    cases down
  · exact congrArg Host.Outcome.next (if_neg (by simp [canChange, seeded, up]))
  · intro mode asks back
    have acts : ∀ (k : Fin 56) act, (.next (pressKey k act s) : Host.Outcome State Fault Refusal) = .next (act (pressed k s)) :=
      fun k act => congrArg Host.Outcome.next (pressKey_acts act up)
    refine ⟨acts 48 _, acts 49 _, acts 50 _, acts 55 _, acts 54 _, ?_, ?_, ?_, fun slot p mapped => ?_⟩
    · obtain ⟨u, requested, same⟩ := exec_runHold_asked 51 s
      exact ⟨u, requested, (acts 51 _).trans (congrArg Host.Outcome.next same.symm)⟩
    · obtain ⟨u, requested, same⟩ := exec_runResume_asked 52 s
      exact ⟨u, requested, (acts 52 _).trans (congrArg Host.Outcome.next same.symm)⟩
    · obtain ⟨u, requested, same⟩ := exec_runAbort_asked 53 s
      exact ⟨u, requested, (acts 53 _).trans (congrArg Host.Outcome.next same.symm)⟩
    · intro k flashing
      have at_slot : slotOf (pressed k s).settings.orient slot = p := slotOf_eq mapped
      have key : exec (.positionKey slot) s = .next (positionKeyActs slot (pressed k s)) := exec_positionKey slot up
      have flashes : ∀ u, flashing u = startFlash slot (back u) := fun _ => rfl
      refine ⟨fun none => ?_, fun load => ?_, fun close => ?_, fun remove => ?_⟩
      · exact key.trans (congrArg Host.Outcome.next (positionKeyActs_none (s := pressed k s) none slot))
      · obtain ⟨u, requested, response, same⟩ := exec_confirm_asked k p s
        refine ⟨u, _, requested, response, ?_⟩
        rw [key, positionKeyActs_load (s := pressed k s) load at_slot, loadKeyAt_eq, flashes, ← same]
      · obtain ⟨u, requested, response, same⟩ := exec_close_asked k p s
        refine ⟨u, _, requested, response, ?_⟩
        rw [key, positionKeyActs_close (s := pressed k s) close at_slot, closeKeyAt_eq, flashes, ← same]
      · obtain ⟨u, requested, response, same⟩ := exec_retire_asked k p s
        refine ⟨u, _, requested, response, ?_⟩
        rw [key, positionKeyActs_remove (s := pressed k s) remove at_slot, removeKeyAt_eq, flashes, ← same]
  · intro scanned
    have ends : endScan s = match actingKey s with
      | some k => keyActs k scanned
      | none => scanned := rfl
    refine ⟨fun k open_ presses sole => ?_, fun none => ?_⟩
    · rw [ends, actingKey_eq open_ presses sole]
    · rw [ends, actingKey_none none]

end Sys2Proof.Machine
end

section
/-! PROOF. What the expiries of a tick leave alone, and the rows they are (R1; log 3). -/

namespace Sys2Proof.Machine

/-! ## The run's lines -/

section Run
variable {s : State}

theorem runKeeps_mapRecs_finish (i : Nat) (result : Context → PointResult) (s : State) :
    RunKeeps s (mapRecs (fun _ => finishMember i result) s) := by
  refine .mapRecs (fun _ r => (sameMember_finish i result r).2.2.1) (fun _ r active => ?_)
  rwa [(sameMember_finish i result r).2.1] at active

theorem runKeeps_cutMeasurement (s : State) : RunKeeps s (cutMeasurement s) := by
  unfold cutMeasurement
  split
  · exact (runKeeps_mapRecs_finish _ _ s).trans (.of_table rfl rfl)
  · exact .of_table rfl rfl

theorem runLines_breakOff (ending : Ending) (s : State) : runLines (breakOff ending s).run = runLines s.run :=
  (congrArg runLines (breakOff_run ending s)).trans rfl

theorem runLines_abortRun (s : State) : runLines (abortRun s).run = runLines s.run := (runLines_breakOff .aborted _).trans rfl

theorem presenceExpiry_frame (s : State) : OnlyChanges [.table, .front, .attn] s (presenceExpiry s) :=
  .ite ((setFront_frame s _).comp (referenceLost_frame _)) (.refl _ s)

theorem runLines_pointExpiry (s : State) : runLines (pointExpiry s).run = runLines s.run := by
  unfold pointExpiry
  split
  · exact (runKeeps_membersChanged _).lines.trans rfl
  · rfl

theorem runLines_latencyExpiry (s : State) : runLines (latencyExpiry s).run = runLines s.run :=
  (RunKeeps.ite (runKeeps_lookAtSource s) (.refl s)).lines

theorem runLines_sourceExpiry (s : State) : runLines (sourceExpiry s).run = runLines s.run := by
  unfold sourceExpiry
  split
  · split
    · exact runLines_abortRun (raiseFault sourceTimeoutKind 0 s)
    · rfl
  · rfl

theorem runLines_settleExpiry (s : State) : runLines (settleExpiry s).run = runLines s.run :=
  (RunKeeps.ite (runKeeps_settleOver s) (.refl s)).lines

theorem runLines_phaseLowEnd (s : State) : runLines (phaseLowEnd s).run = runLines s.run := by
  have ended : RunKeeps s (s.setRun { s.run with phaseLow := none }) := .of_table rfl rfl
  exact (RunKeeps.ite (ended.trans (.ite (runKeeps_enterMeasuring _) (.refl _))) (.refl s)).lines

theorem runLines_holdOffExpiry (s : State) : runLines (holdOffExpiry s).run = runLines s.run := by
  have ended : RunKeeps s (s.setRun { s.run with holdOff := none }) := .of_table rfl rfl
  exact (RunKeeps.ite (ended.trans (runKeeps_membersChanged _)) (.refl s)).lines

theorem runLines_guardExpiry (s : State) : runLines (guardExpiry s).run = runLines s.run := by
  have cut : RunKeeps s (raiseFault cascadeCutKind 0 (cutMeasurement s)) := (runKeeps_cutMeasurement s).trans (.of_table rfl rfl)
  exact (RunKeeps.ite (cut.trans (runKeeps_endPoint _)) (.refl s)).lines

end Run

/-! ## The unit's lines -/

/-- The filters of the closure unit's lines. -/
def unitLines (c : Closure) : Filter × Filter := (c.home, c.pressDone)

section Unit
variable {s : State}

theorem unitLines_firePress (target : Nat) (s : State) : unitLines (firePress target s).closure = unitLines s.closure := by
  cases drawn : drawSlot s.stock with
  | none => simp only [firePress, drawn]
  | some i =>
    rw [firePress_eq drawn, noteStockFall_closure]
    rfl

theorem unitLines_dwellOver (target : Nat) (s : State) : unitLines (dwellOver target s).closure = unitLines s.closure := by
  unfold dwellOver
  split
  · rfl
  · split
    · rfl
    · exact unitLines_firePress target s

theorem unitLines_arrive (m : Move) (s : State) : unitLines (arrive m s).closure = unitLines s.closure := by
  unfold arrive
  split
  · exact (unitLines_dwellOver _ _).trans rfl
  · rfl

theorem unitLines_serve (s : State) : unitLines (serve s).closure = unitLines s.closure := by
  unfold serve
  split
  · simp only
    split
    · rfl
    · split
      · exact unitLines_arrive _ s
      · rfl
  · rfl

theorem unitLines_reachHome (s : State) : unitLines (reachHome s).closure = unitLines s.closure := (unitLines_serve _).trans rfl

theorem unitLines_completePress (s : State) : unitLines (completePress s).closure = unitLines s.closure := by
  unfold completePress
  split
  · exact (unitLines_serve _).trans rfl
  · rfl

theorem unitLines_stepExpiry (s : State) : unitLines (stepExpiry s).closure = unitLines s.closure := by
  unfold stepExpiry
  split
  · split <;> rfl
  · split
    · split
      · exact unitLines_arrive _ s
      · rfl
    · rfl
  · rfl

theorem unitLines_dwellExpiry (s : State) : unitLines (dwellExpiry s).closure = unitLines s.closure := by
  unfold dwellExpiry
  split
  · split
    · exact (unitLines_dwellOver _ _).trans rfl
    · rfl
  · rfl

theorem unitLines_pressExpiry (s : State) : unitLines (pressExpiry s).closure = unitLines s.closure := by
  unfold pressExpiry
  split <;> rfl

end Unit

/-! ## What the expiries leave alone -/

/-- The lines are filtered as they were, the keys and the scan stand as they did, and the straps and settings are the same. -/
structure Undisturbed (s t : State) : Prop where
  run : runLines t.run = runLines s.run
  unit : unitLines t.closure = unitLines s.closure
  keys : t.panel.keys = s.panel.keys
  presses : t.panel.scanPresses = s.panel.scanPresses
  column : t.panel.column = s.panel.column
  settings : t.settings = s.settings
  straps : t.straps = s.straps

section Expiries
variable {s t u : State} {bs : List Block}

theorem Undisturbed.refl (s : State) : Undisturbed s s := ⟨rfl, rfl, rfl, rfl, rfl, rfl, rfl⟩

theorem Undisturbed.trans (h : Undisturbed s t) (k : Undisturbed t u) : Undisturbed s u :=
  ⟨k.run.trans h.run, k.unit.trans h.unit, k.keys.trans h.keys, k.presses.trans h.presses, k.column.trans h.column,
    k.settings.trans h.settings, k.straps.trans h.straps⟩

theorem Undisturbed.of_run (frame : OnlyChanges bs s t) (run : runLines t.run = runLines s.run)
    (apart : .closure ∉ bs ∧ .panel ∉ bs ∧ .settings ∉ bs ∧ .straps ∉ bs := by decide) : Undisturbed s t where
  run := run
  unit := congrArg unitLines (frame.2 .closure apart.1)
  keys := congrArg Panel.keys (frame.2 .panel apart.2.1)
  presses := congrArg Panel.scanPresses (frame.2 .panel apart.2.1)
  column := congrArg Panel.column (frame.2 .panel apart.2.1)
  settings := frame.2 .settings apart.2.2.1
  straps := frame.2 .straps apart.2.2.2

theorem Undisturbed.of_unit (frame : OnlyChanges bs s t) (unit : unitLines t.closure = unitLines s.closure)
    (apart : .run ∉ bs ∧ .panel ∉ bs ∧ .settings ∉ bs ∧ .straps ∉ bs := by decide) : Undisturbed s t where
  run := congrArg runLines (frame.2 .run apart.1)
  unit := unit
  keys := congrArg Panel.keys (frame.2 .panel apart.2.1)
  presses := congrArg Panel.scanPresses (frame.2 .panel apart.2.1)
  column := congrArg Panel.column (frame.2 .panel apart.2.1)
  settings := frame.2 .settings apart.2.2.1
  straps := frame.2 .straps apart.2.2.2

theorem Undisturbed.overdue {before : Option Timer} {expiry : State → State} (h : Undisturbed s t) (k : ∀ s, Undisturbed s (expiry s)) :
    Undisturbed s (takeOverdue before expiry t) := by
  unfold takeOverdue
  split
  · exact h.trans (k t)
  · exact h

theorem undisturbed_flashExpiry (slot : Pos) (s : State) : Undisturbed s (flashExpiry slot s) := by
  unfold flashExpiry
  split <;> exact ⟨rfl, rfl, rfl, rfl, rfl, rfl, rfl⟩

theorem undisturbed_modeExpiry (s : State) : Undisturbed s (modeExpiry s) := by
  unfold modeExpiry
  split <;> exact ⟨rfl, rfl, rfl, rfl, rfl, rfl, rfl⟩

theorem undisturbed_lampTestExpiry (s : State) : Undisturbed s (lampTestExpiry s) := by
  unfold lampTestExpiry
  split <;> exact ⟨rfl, rfl, rfl, rfl, rfl, rfl, rfl⟩

theorem undisturbed_flashes (before : Tbl 48 (Option Timer)) (slots : List Pos) (s : State) :
    Undisturbed s (slots.foldl (fun s slot => takeOverdue (before.get slot) (flashExpiry slot) s) s) := by
  induction slots generalizing s with
  | nil => exact .refl s
  | cons slot slots ih => exact ((Undisturbed.refl s).overdue (undisturbed_flashExpiry slot)).trans (ih _)

theorem undisturbed_takeExpiries (before s : State) : Undisturbed s (takeExpiries before s) := by
  unfold takeExpiries
  simp only
  refine .overdue (.trans (.overdue ?_ undisturbed_modeExpiry) (undisturbed_flashes ..)) undisturbed_lampTestExpiry
  refine .overdue ?_ fun s => .of_unit (pressExpiry_frame s) (unitLines_pressExpiry s)
  refine .overdue ?_ fun s => .of_unit (dwellExpiry_frame s) (unitLines_dwellExpiry s)
  refine .overdue ?_ fun s => .of_unit (stepExpiry_frame s) (unitLines_stepExpiry s)
  refine .overdue ?_ fun s => .of_run (guardExpiry_frame s) (runLines_guardExpiry s)
  refine .overdue ?_ fun s => .of_run (holdOffExpiry_frame s) (runLines_holdOffExpiry s)
  refine .overdue ?_ fun s => .of_run (phaseLowEnd_frame s) (runLines_phaseLowEnd s)
  refine .overdue ?_ fun s => .of_run (settleExpiry_frame s) (runLines_settleExpiry s)
  refine .overdue ?_ fun s => .of_run (sourceExpiry_frame s) (runLines_sourceExpiry s)
  refine .overdue ?_ fun s => .of_run (latencyExpiry_frame s) (runLines_latencyExpiry s)
  refine .overdue ?_ fun s => .of_run (pointExpiry_frame s) (runLines_pointExpiry s)
  refine .overdue (.refl s) fun s => .of_run (presenceExpiry_frame s) ?_
  exact congrArg runLines ((presenceExpiry_frame s).2 .run (by decide))

end Expiries

/-! ## The expiries as rows -/

section Rows
variable {rows more : List Instr} {f g : State → State}

theorem execAll_then (h : ∀ u, execAll rows u = .next (f u)) (k : ∀ u, execAll more u = .next (g u)) (u : State) :
    execAll (rows ++ more) u = .next (g (f u)) := (execAll_append rows more u _ (h u)).trans (k _)

theorem execAll_overdue (t : Option Timer) {row : Instr} (h : ∀ u, exec row u = .next (f u)) (u : State) :
    execAll (if Due t then [row] else []) u = .next (takeOverdue t f u) := by
  unfold takeOverdue
  by_cases due : Due t
  · rw [if_pos due, if_pos (isDue_of_due due)]
    exact execAll_cons (h u)
  · rw [if_neg due, if_neg (mt (isDue_iff t).mp due)]
    rfl

theorem execAll_flatMap {rows : Pos → List Instr} {f : Pos → State → State} (h : ∀ slot u, execAll (rows slot) u = .next (f slot u))
    (slots : List Pos) (u : State) : execAll (slots.flatMap rows) u = .next (slots.foldl (fun u slot => f slot u) u) := by
  induction slots generalizing u with
  | nil => rfl
  | cons slot slots ih =>
    rw [List.flatMap_cons]
    exact (execAll_append _ _ u _ (h slot u)).trans (ih _)

/-- The expiries that a tick takes are the rows of the timers that were due before it, in the order of the table (log 3). -/
theorem execAll_expiries (before u : State) :
    let expiry := fun (t : Option Timer) (row : Instr) => if Due t then [row] else []
    execAll (expiry before.front.window .presenceWindowExpiry ++ expiry before.engine.timer .pointTimerExpiry ++
      expiry before.run.latency .latencyTimerExpiry ++ expiry before.run.source .sourceTimerExpiry ++
      expiry before.run.settle .settleTimerExpiry ++ expiry before.run.phaseLow .phaseLowIntervalEnd ++
      expiry before.run.holdOff .cascadeHoldOffExpiry ++ expiry before.run.guard .guardTimerExpiry ++
      expiry before.closure.stepTimer .stepTimerExpiry ++ expiry before.closure.dwellTimer .dwellTimerExpiry ++
      expiry before.closure.pressTimer .pressTimerExpiry ++ expiry before.panel.modeTimer .modeTimerExpiry ++
      ((List.finRange 48).flatMap fun slot => expiry (before.panel.flashes.get slot) (.refusalFlashExpiry slot)) ++
      expiry before.panel.lampTest .lampTestExpiry) u = .next (takeExpiries before u) := by
  have one := fun (t : Option Timer) {row : Instr} {f : State → State} (h : ∀ u, exec row u = .next (f u)) => execAll_overdue t h
  have flashes := execAll_flatMap (fun slot => one (before.panel.flashes.get slot) (row := .refusalFlashExpiry slot) fun _ => rfl)
    (List.finRange 48)
  exact execAll_then (execAll_then (execAll_then (execAll_then (execAll_then (execAll_then (execAll_then (execAll_then (execAll_then
    (execAll_then (execAll_then (execAll_then (execAll_then
      (one before.front.window fun _ => rfl) (one before.engine.timer fun _ => rfl)) (one before.run.latency fun _ => rfl))
      (one before.run.source fun _ => rfl)) (one before.run.settle fun _ => rfl)) (one before.run.phaseLow fun _ => rfl))
      (one before.run.holdOff fun _ => rfl)) (one before.run.guard fun _ => rfl)) (one before.closure.stepTimer fun _ => rfl))
      (one before.closure.dwellTimer fun _ => rfl)) (one before.closure.pressTimer fun _ => rfl))
      (one before.panel.modeTimer fun _ => rfl)) flashes) (one before.panel.lampTest fun _ => rfl) u

end Rows

end Sys2Proof.Machine
end

section
/-! PROOF. The lines that a tick takes, one after another (R89, R112, R144; log 5). -/

namespace Sys2Proof.Machine

/-! ## A line's filter -/

/-- The filter after its first reading, which seeds it (R48). -/
def firstReading (f : Filter) (sample : Bool) : Filter := if f.seeded then f else ⟨sample, false, true⟩

/-- The filter once a sample's event has been taken, its mark of a differing sample not yet set. -/
def heard (f : Filter) (sample : Bool) : Filter := if confirms f sample then confirmed sample else firstReading f sample

/-- The mark that a sample leaves. -/
def markAfter (f : Filter) (sample : Bool) : Bool → Bool := fun _ => (filterAfter f sample).pending

section Filter
variable {f : Filter} {level : Bool}

theorem remark_heard (f : Filter) (sample : Bool) : remark (markAfter f sample) (heard f sample) = filterAfter f sample := by
  obtain ⟨level, pending, seeded⟩ := f
  cases seeded <;> cases pending <;> cases level <;> cases sample <;> rfl

theorem remark_firstReading (quiet : ¬confirms f level = true) : remark (markAfter f level) (firstReading f level) = sampleFilter f level := by
  have after := remark_heard f level
  rwa [heard, if_neg quiet, ← sampleFilter_eq] at after

theorem markAfter_confirming (confirming : confirms f level = true) : markAfter f level = fun _ => false := by
  funext _
  rw [markAfter, filterAfter_confirming (confirms_iff.mp confirming)]
  rfl

theorem heard_confirming (confirming : confirms f level = true) : heard f level = confirmed level := if_pos confirming

theorem heard_quiet (quiet : ¬confirms f level = true) : heard f level = firstReading f level := if_neg quiet

theorem firstReading_confirming (confirming : confirms f level = true) : firstReading f level = f :=
  if_pos (confirms_iff.mp confirming).1

theorem canChange_confirming (confirming : confirms f level = true) : canChange f level = true := by
  obtain ⟨seeded, -, differs⟩ := confirms_iff.mp confirming
  simp [canChange, seeded, Ne.symm differs]

/-- The row of a confirming sample, if the sample confirms. -/
theorem execAll_change {rise fall : Instr} {v t : State} (row : confirms f level = true → exec (if level then rise else fall) v = .next t)
    (quiet : ¬confirms f level = true → v = t) :
    execAll (if f.seeded = true ∧ f.pending = true ∧ level ≠ f.level then [if level then rise else fall] else []) v = .next t := by
  by_cases confirming : confirms f level = true
  · have change : f.seeded = true ∧ f.pending = true ∧ level ≠ f.level := confirms_iff.mp confirming
    rw [if_pos change]
    exact execAll_cons (row confirming)
  · have none : ¬(f.seeded = true ∧ f.pending = true ∧ level ≠ f.level) := mt confirms_iff.mpr confirming
    rw [if_neg none, quiet confirming]
    rfl

end Filter

/-! ## What each line's event does not look at -/

section Events
variable (w : Outside) (s : State)

theorem faultAbort_outside (kind : BitVec 7) : faultAbort kind (outside w s) = outside w (faultAbort kind s) := by
  rw [faultAbort, faultAbort, ← abortRun_outside]
  rfl

theorem srcReadyRise_outside : srcReadyRise (outside w s) = outside { w with srcReady := fun _ => false } (srcReadyRise s) := by
  unfold srcReadyRise
  simp only [outside_ite, ← enterSettling_outside]
  rfl

/-- What a fall of SRC_READY leads to, its level confirmed (R95, R97). -/
def sourceFell (s : State) : State :=
  if s.straps.role = .slave then s
  else
    match s.run.state with
    | .settling => s.setRun { s.run with
        state := .sourcing .awaitReady, settle := none, source := startTimer (s.settings.srcTimeout * 1000) }
    | .measuring => faultAbort sourceLostKind s
    | _ => s

theorem srcReadyFall_eq_fell (s : State) : srcReadyFall s = sourceFell (s.setRun { s.run with srcReady := confirmed false }) := rfl

theorem sourceFell_outside : sourceFell (outside w s) = outside w (sourceFell s) := by
  have state : (outside w s).run.state = s.run.state := rfl
  unfold sourceFell
  rw [state, outside_ite]
  cases s.run.state with
  | measuring =>
    simp only [← faultAbort_outside]
    rfl
  | settling | idle | held | following | sourcing => rfl

theorem srcReadyFall_outside : srcReadyFall (outside w s) = outside { w with srcReady := fun _ => false } (srcReadyFall s) := by
  rw [srcReadyFall_eq_fell, srcReadyFall_eq_fell, ← sourceFell_outside]
  rfl

theorem reachHome_outside (calm : ∀ t, cancelWaits (outside w t) = cancelWaits t) : reachHome (outside w s) = outside w (reachHome s) :=
  serve_outside w (s.setClosure { s.closure with unit := .idle, stepCount := 0, stepTimer := none }) (calm _)

theorem homeRise_outside (calm : ∀ t, cancelWaits (outside w t) = cancelWaits t) :
    homeRise (outside w s) = outside { w with home := fun _ => false } (homeRise s) := by
  unfold homeRise
  simp only [outside_ite, ← reachHome_outside { w with home := fun _ => false } _ calm]
  rfl

theorem completePress_outside (calm : ∀ t, cancelWaits (outside w t) = cancelWaits t) :
    completePress (outside w s) = outside w (completePress s) := by
  have queue : (outside w s).closure.queue = s.closure.queue := rfl
  have drawn : (outside w s).closure.tagInPress = s.closure.tagInPress := rfl
  unfold completePress
  rw [queue, drawn]
  split
  · simp only [← serve_outside w _ (calm _)]
    rfl
  · rfl

theorem pressDoneRise_outside (calm : ∀ t, cancelWaits (outside w t) = cancelWaits t) :
    pressDoneRise (outside w s) = outside { w with pressDone := fun _ => false } (pressDoneRise s) := by
  by_cases pressing : ∃ target, s.closure.unit = .pressing target
  · obtain ⟨target, pressing⟩ := pressing
    rw [pressDoneRise_pressing pressing, pressDoneRise_pressing (s := outside w s) pressing,
      ← completePress_outside { w with pressDone := fun _ => false } _ calm]
    rfl
  · have other := not_exists.mp pressing
    rw [pressDoneRise_other other, pressDoneRise_other (s := outside w s) other]
    rfl

theorem phaseLineRise_outside : phaseLineRise (outside w s) = outside { w with phaseLine := fun _ => false } (phaseLineRise s) := by
  unfold phaseLineRise
  simp only [outside_ite, ← enterMeasuring_outside]
  rfl

theorem cutMeasurement_outside : cutMeasurement (outside w s) = outside w (cutMeasurement s) := by
  unfold cutMeasurement
  rw [currentPoint_outside]
  cases currentPoint s <;> rfl

theorem slavePointEnd_outside : slavePointEnd (outside w s) = outside w (slavePointEnd s) := by
  unfold slavePointEnd
  rw [cutMeasurement_outside]
  simp only [outside_ite]
  rfl

theorem phaseLineFall_outside : phaseLineFall (outside w s) = outside { w with phaseLine := fun _ => false } (phaseLineFall s) := by
  unfold phaseLineFall
  simp only [outside_ite, ← slavePointEnd_outside]
  rfl

theorem doneLineRise_outside : doneLineRise (outside w s) = outside { w with doneLine := fun _ => false } (doneLineRise s) := by
  unfold doneLineRise
  simp only [outside_ite, ← membersChanged_outside]
  rfl

end Events

/-! ## Each line's sample -/

section Lines
variable (level : Bool) (v : State)

/-- SRC_READY read, but for the mark of a differing sample. -/
def hearSrcReady : State :=
  if confirms v.run.srcReady level then (if level then srcReadyRise v else srcReadyFall v)
  else v.setRun { v.run with srcReady := firstReading v.run.srcReady level }

/-- HOME read, but for the mark of a differing sample. -/
def hearHome : State :=
  if confirms v.closure.home level then (if level then homeRise v else homeFall v)
  else v.setClosure { v.closure with home := firstReading v.closure.home level }

/-- PRESS_DONE read, but for the mark of a differing sample. -/
def hearPressDone : State :=
  if confirms v.closure.pressDone level then (if level then pressDoneRise v else pressDoneFall v)
  else v.setClosure { v.closure with pressDone := firstReading v.closure.pressDone level }

/-- PHASE read, but for the mark of a differing sample and the reading where no event came. -/
def hearPhase : State :=
  if confirms v.run.phaseLine level then
    (if v.straps.role = .solo then readPhase level v
    else if level then phaseLineRise (readPhase level v) else phaseLineFall (readPhase level v))
  else if v.straps.role = .solo then v
  else v.setRun { v.run with phaseLine := firstReading v.run.phaseLine level }

/-- DONE read, but for the mark of a differing sample and the reading where no event came. -/
def hearDone : State :=
  if confirms v.run.doneLine level then
    (if v.straps.role = .solo then readDone level v
    else if level then doneLineRise (readDone level v) else doneLineFall (readDone level v))
  else if v.straps.role = .solo then v
  else v.setRun { v.run with doneLine := firstReading v.run.doneLine level }

theorem execAll_srcReady : execAll (if v.run.srcReady.seeded = true ∧ v.run.srcReady.pending = true ∧ level ≠ v.run.srcReady.level then
      [if level then .srcReadyRise else .srcReadyFall] else [])
    { v with run := { v.run with srcReady := firstReading v.run.srcReady level } } = .next (hearSrcReady level v) := by
  refine execAll_change (fun confirming => ?_) fun quiet => (if_neg quiet).symm
  have change := canChange_confirming confirming
  rw [firstReading_confirming confirming, hearSrcReady, if_pos confirming]
  cases level <;> exact congrArg Host.Outcome.next (if_pos change)

theorem execAll_home : execAll (if v.closure.home.seeded = true ∧ v.closure.home.pending = true ∧ level ≠ v.closure.home.level then
      [if level then .homeRise else .homeFall] else [])
    { v with closure := { v.closure with home := firstReading v.closure.home level } } = .next (hearHome level v) := by
  refine execAll_change (fun confirming => ?_) fun quiet => (if_neg quiet).symm
  have change := canChange_confirming confirming
  rw [firstReading_confirming confirming, hearHome, if_pos confirming]
  cases level <;> exact congrArg Host.Outcome.next (if_pos change)

theorem execAll_pressDone : execAll (if v.closure.pressDone.seeded = true ∧ v.closure.pressDone.pending = true ∧
      level ≠ v.closure.pressDone.level then [if level then .pressDoneRise else .pressDoneFall] else [])
    { v with closure := { v.closure with pressDone := firstReading v.closure.pressDone level } } = .next (hearPressDone level v) := by
  refine execAll_change (fun confirming => ?_) fun quiet => (if_neg quiet).symm
  have change := canChange_confirming confirming
  rw [firstReading_confirming confirming, hearPressDone, if_pos confirming]
  cases level <;> exact congrArg Host.Outcome.next (if_pos change)

theorem execAll_phase : execAll (if v.run.phaseLine.seeded = true ∧ v.run.phaseLine.pending = true ∧ level ≠ v.run.phaseLine.level then
      [if level then .phaseRise else .phaseFall] else [])
    { v with run := { v.run with
      phaseLine := if v.straps.role = .solo then v.run.phaseLine else firstReading v.run.phaseLine level } } = .next (hearPhase level v) := by
  refine execAll_change (fun confirming => ?_) fun quiet => ?_
  · have change := canChange_confirming confirming
    rw [firstReading_confirming confirming, ite_self, hearPhase, if_pos confirming]
    by_cases solo : v.straps.role = .solo
    · rw [if_pos solo]
      cases level <;> exact congrArg Host.Outcome.next (if_pos solo)
    · rw [if_neg solo]
      cases level <;> exact congrArg Host.Outcome.next ((if_neg solo).trans (if_pos change))
  · rw [hearPhase, if_neg quiet]
    split <;> rfl

theorem execAll_done : execAll (if v.run.doneLine.seeded = true ∧ v.run.doneLine.pending = true ∧ level ≠ v.run.doneLine.level then
      [if level then .doneRise else .doneFall] else [])
    { v with run := { v.run with
      doneLine := if v.straps.role = .solo then v.run.doneLine else firstReading v.run.doneLine level } } = .next (hearDone level v) := by
  refine execAll_change (fun confirming => ?_) fun quiet => ?_
  · have change := canChange_confirming confirming
    rw [firstReading_confirming confirming, ite_self, hearDone, if_pos confirming]
    by_cases solo : v.straps.role = .solo
    · rw [if_pos solo]
      cases level <;> exact congrArg Host.Outcome.next (if_pos solo)
    · rw [if_neg solo]
      cases level <;> exact congrArg Host.Outcome.next ((if_neg solo).trans (if_pos change))
  · rw [hearDone, if_neg quiet]
    split <;> rfl

/-! ### A sample is what it leads to and its mark -/

theorem sampleSrcReady_eq : sampleSrcReady level v = outside { srcReady := markAfter v.run.srcReady level } (hearSrcReady level v) := by
  unfold sampleSrcReady hearSrcReady
  by_cases confirming : confirms v.run.srcReady level = true
  · rw [if_pos confirming, if_pos confirming, markAfter_confirming confirming]
    cases level with
    | false => exact srcReadyFall_outside {} v
    | true => exact srcReadyRise_outside {} v
  · rw [if_neg confirming, if_neg confirming, ← remark_firstReading confirming]
    rfl

theorem sampleHome_outside (w : Outside) (calm : ∀ t, cancelWaits (outside w t) = cancelWaits t) (unmarked : w.home = id) :
    sampleHome level (outside w v) = outside { w with home := markAfter v.closure.home level } (hearHome level v) := by
  have filter : (outside w v).closure.home = v.closure.home := congrArg (fun mark => remark mark v.closure.home) unmarked
  unfold sampleHome hearHome
  rw [filter]
  by_cases confirming : confirms v.closure.home level = true
  · rw [if_pos confirming, if_pos confirming, markAfter_confirming confirming]
    cases level with
    | false => rfl
    | true => exact homeRise_outside w v calm
  · rw [if_neg confirming, if_neg confirming, ← remark_firstReading confirming]
    rfl

theorem samplePressDone_outside (w : Outside) (calm : ∀ t, cancelWaits (outside w t) = cancelWaits t) (unmarked : w.pressDone = id) :
    samplePressDone level (outside w v) = outside { w with pressDone := markAfter v.closure.pressDone level } (hearPressDone level v) := by
  have filter : (outside w v).closure.pressDone = v.closure.pressDone := congrArg (fun mark => remark mark v.closure.pressDone) unmarked
  unfold samplePressDone hearPressDone
  rw [filter]
  by_cases confirming : confirms v.closure.pressDone level = true
  · rw [if_pos confirming, if_pos confirming, markAfter_confirming confirming]
    cases level with
    | false => rfl
    | true => exact pressDoneRise_outside w v calm
  · rw [if_neg confirming, if_neg confirming, ← remark_firstReading confirming]
    rfl

theorem samplePhase_outside (w : Outside) (unmarked : w.phaseLine = id) : samplePhase level (outside w v) =
    outside { w with
      phaseReading := fun _ => level
      phaseLine := if v.straps.role = .solo then id else markAfter v.run.phaseLine level } (hearPhase level v) := by
  have filter : (readPhase level (outside w v)).run.phaseLine = v.run.phaseLine :=
    congrArg (fun mark => remark mark v.run.phaseLine) unmarked
  have straps : (readPhase level (outside w v)).straps = v.straps := rfl
  unfold samplePhase hearPhase
  simp only [filter, straps]
  by_cases solo : v.straps.role = .solo
  · rw [if_pos solo, if_pos solo, if_pos solo, if_pos solo, ← unmarked]
    split <;> rfl
  · rw [if_neg solo, if_neg solo, if_neg solo, if_neg solo]
    by_cases confirming : confirms v.run.phaseLine level = true
    · rw [if_pos confirming, if_pos confirming, markAfter_confirming confirming]
      cases level with
      | false => exact phaseLineFall_outside { w with phaseReading := fun _ => false } (readPhase false v)
      | true => exact phaseLineRise_outside { w with phaseReading := fun _ => true } (readPhase true v)
    · rw [if_neg confirming, if_neg confirming, ← remark_firstReading confirming]
      rfl

theorem sampleDone_outside (w : Outside) (unmarked : w.doneLine = id) : sampleDone level (outside w v) =
    outside { w with
      doneReading := fun _ => level
      doneLine := if v.straps.role = .solo then id else markAfter v.run.doneLine level } (hearDone level v) := by
  have filter : (readDone level (outside w v)).run.doneLine = v.run.doneLine :=
    congrArg (fun mark => remark mark v.run.doneLine) unmarked
  have straps : (readDone level (outside w v)).straps = v.straps := rfl
  unfold sampleDone hearDone
  simp only [filter, straps]
  by_cases solo : v.straps.role = .solo
  · rw [if_pos solo, if_pos solo, if_pos solo, if_pos solo, ← unmarked]
    split <;> rfl
  · rw [if_neg solo, if_neg solo, if_neg solo, if_neg solo]
    by_cases confirming : confirms v.run.doneLine level = true
    · rw [if_pos confirming, if_pos confirming, markAfter_confirming confirming]
      cases level with
      | false => rfl
      | true => exact doneLineRise_outside { w with doneReading := fun _ => true } (readDone true v)
    · rw [if_neg confirming, if_neg confirming, ← remark_firstReading confirming]
      rfl

/-! ### What the other lines keep -/

theorem runLines_srcReadyRise : runLines (srcReadyRise v).run = (confirmed true, v.run.phaseLine, v.run.doneLine) :=
  (RunKeeps.ite (runKeeps_enterSettling (v.setRun { v.run with srcReady := confirmed true })) (.refl _)).lines

theorem runLines_srcReadyFall : runLines (srcReadyFall v).run = (confirmed false, v.run.phaseLine, v.run.doneLine) := by
  unfold srcReadyFall
  simp only
  split
  · rfl
  · split
    · rfl
    · exact runLines_abortRun (raiseFault sourceLostKind 0 (v.setRun { v.run with srcReady := confirmed false }))
    · rfl

theorem runLines_phaseLineRise : runLines (phaseLineRise v).run = (v.run.srcReady, confirmed true, v.run.doneLine) :=
  (RunKeeps.ite (runKeeps_enterMeasuring (v.setRun { v.run with phaseLine := confirmed true })) (.refl _)).lines

theorem runKeeps_slavePointEnd (s : State) : RunKeeps s (slavePointEnd s) := by
  have cut : RunKeeps s (raisePointEnd (cutMeasurement s).run.index (shortMembers (cutMeasurement s)) (cutMeasurement s)) :=
    (runKeeps_cutMeasurement s).trans (.of_table rfl rfl)
  exact .ite (cut.trans (runKeeps_completeRun _)) (cut.trans (.of_table rfl rfl))

theorem runLines_phaseLineFall : runLines (phaseLineFall v).run = (v.run.srcReady, confirmed false, v.run.doneLine) :=
  (RunKeeps.ite (runKeeps_slavePointEnd (v.setRun { v.run with phaseLine := confirmed false })) (.refl _)).lines

theorem runLines_doneLineRise : runLines (doneLineRise v).run = (v.run.srcReady, v.run.phaseLine, confirmed true) :=
  (RunKeeps.ite (runKeeps_membersChanged (v.setRun { v.run with doneLine := confirmed true })) (.refl _)).lines

theorem runLines_hearSrcReady :
    runLines (hearSrcReady level v).run = (heard v.run.srcReady level, v.run.phaseLine, v.run.doneLine) := by
  unfold hearSrcReady
  by_cases confirming : confirms v.run.srcReady level = true
  · rw [if_pos confirming, heard_confirming confirming]
    cases level with
    | false => exact runLines_srcReadyFall v
    | true => exact runLines_srcReadyRise v
  · rw [if_neg confirming, heard_quiet confirming]
    rfl

theorem unitLines_hearHome : unitLines (hearHome level v).closure = (heard v.closure.home level, v.closure.pressDone) := by
  unfold hearHome
  by_cases confirming : confirms v.closure.home level = true
  · rw [if_pos confirming, heard_confirming confirming]
    cases level with
    | false => rfl
    | true =>
      unfold homeRise
      simp only [if_true]
      split
      · exact unitLines_reachHome (v.setClosure { v.closure with home := confirmed true })
      · rfl
  · rw [if_neg confirming, heard_quiet confirming]
    rfl

theorem unitLines_hearPressDone : unitLines (hearPressDone level v).closure = (v.closure.home, heard v.closure.pressDone level) := by
  unfold hearPressDone
  by_cases confirming : confirms v.closure.pressDone level = true
  · rw [if_pos confirming, heard_confirming confirming]
    cases level with
    | false => rfl
    | true =>
      unfold pressDoneRise
      simp only [if_true]
      split
      · exact unitLines_completePress (v.setClosure { v.closure with pressDone := confirmed true })
      · rfl
  · rw [if_neg confirming, heard_quiet confirming]
    rfl

theorem runLines_hearPhase : runLines (hearPhase level v).run = (v.run.srcReady,
    if v.straps.role = .solo then v.run.phaseLine else heard v.run.phaseLine level, v.run.doneLine) := by
  unfold hearPhase
  by_cases solo : v.straps.role = .solo
  · simp only [if_pos solo]
    split <;> rfl
  · simp only [if_neg solo]
    by_cases confirming : confirms v.run.phaseLine level = true
    · rw [if_pos confirming, heard_confirming confirming]
      cases level with
      | false => exact runLines_phaseLineFall (readPhase false v)
      | true => exact runLines_phaseLineRise (readPhase true v)
    · rw [if_neg confirming, heard_quiet confirming]
      rfl

theorem runLines_hearDone : runLines (hearDone level v).run = (v.run.srcReady, v.run.phaseLine,
    if v.straps.role = .solo then v.run.doneLine else heard v.run.doneLine level) := by
  unfold hearDone
  by_cases solo : v.straps.role = .solo
  · simp only [if_pos solo]
    split <;> rfl
  · simp only [if_neg solo]
    by_cases confirming : confirms v.run.doneLine level = true
    · rw [if_pos confirming, heard_confirming confirming]
      cases level with
      | false => rfl
      | true => exact runLines_doneLineRise (readDone true v)
    · rw [if_neg confirming, heard_quiet confirming]
      rfl

end Lines

end Sys2Proof.Machine
end

section
/-! PROOF. A tick's lines put together (R89, R112, R144; log 5). -/

namespace Sys2Proof.Machine

section Frames
variable (level : Bool) (v : State)

theorem hearSrcReady_frame : OnlyChanges [.table, .engine, .run, .attn] v (hearSrcReady level v) :=
  .ite (.ite ((srcReadyRise_frame v).mono (by decide)) (srcReadyFall_frame v)) ((setRun_frame v _).mono (by decide))

theorem hearHome_frame : OnlyChanges [.stock, .closure, .attn] v (hearHome level v) :=
  .ite (.ite (homeRise_frame v) ((setClosure_frame v _).mono (by decide))) ((setClosure_frame v _).mono (by decide))

theorem hearPressDone_frame : OnlyChanges [.table, .stock, .closure, .attn] v (hearPressDone level v) :=
  .ite (.ite (pressDoneRise_frame v) ((setClosure_frame v _).mono (by decide))) ((setClosure_frame v _).mono (by decide))

theorem hearPhase_frame : OnlyChanges [.table, .engine, .run, .attn] v (hearPhase level v) := by
  have read : OnlyChanges [.table, .engine, .run, .attn] v (readPhase level v) := (setRun_frame v _).mono (by decide)
  exact .ite (.ite read (.ite (read.trans ((phaseLineRise_frame _).mono (by decide))) (read.trans (phaseLineFall_frame _))))
    (.ite (.refl _ v) ((setRun_frame v _).mono (by decide)))

theorem hearDone_frame : OnlyChanges [.table, .engine, .run, .attn] v (hearDone level v) := by
  have read : OnlyChanges [.table, .engine, .run, .attn] v (readDone level v) := (setRun_frame v _).mono (by decide)
  exact .ite (.ite read (.ite (read.trans (doneLineRise_frame _)) (read.trans ((setRun_frame _ _).mono (by decide)))))
    (.ite (.refl _ v) ((setRun_frame v _).mono (by decide)))

end Frames

/-! ## The lines, one after another -/

/-- The part with the lines' events taken in their order. -/
def hearLines (srcReady home pressDone phase done : Bool) (v : State) : State :=
  hearDone done (hearPhase phase (hearPressDone pressDone (hearHome home (hearSrcReady srcReady v))))

section Hear
variable {srcReady home pressDone phase done : Bool} {s v : State}

theorem hearLines_frame : OnlyChanges [.table, .engine, .run, .stock, .closure, .attn] v (hearLines srcReady home pressDone phase done v) :=
  (((((hearSrcReady_frame srcReady v).mono (by decide)).trans ((hearHome_frame home _).mono (by decide))).trans
    ((hearPressDone_frame pressDone _).mono (by decide))).trans ((hearPhase_frame phase _).mono (by decide))).trans
    ((hearDone_frame done _).mono (by decide))

end Hear

/-- The filters of the lines that a tick reads. -/
structure LineFilters where
  srcReady : Filter
  phaseLine : Filter
  doneLine : Filter
  home : Filter
  pressDone : Filter

def lineFilters (run : Filter × Filter × Filter) (unit : Filter × Filter) : LineFilters := ⟨run.1, run.2.1, run.2.2, unit.1, unit.2⟩

/-- The line filters of the part. -/
def shown (v : State) : LineFilters := lineFilters (runLines v.run) (unitLines v.closure)

section Shown
variable (level : Bool) (v : State)

theorem shown_hearSrcReady : shown (hearSrcReady level v) = { shown v with srcReady := heard v.run.srcReady level } := by
  have closure : (hearSrcReady level v).closure = v.closure := (hearSrcReady_frame level v).2 .closure (by decide)
  rw [shown, runLines_hearSrcReady, closure]
  rfl

theorem shown_hearHome : shown (hearHome level v) = { shown v with home := heard v.closure.home level } := by
  have run : (hearHome level v).run = v.run := (hearHome_frame level v).2 .run (by decide)
  rw [shown, unitLines_hearHome, run]
  rfl

theorem shown_hearPressDone : shown (hearPressDone level v) = { shown v with pressDone := heard v.closure.pressDone level } := by
  have run : (hearPressDone level v).run = v.run := (hearPressDone_frame level v).2 .run (by decide)
  rw [shown, unitLines_hearPressDone, run]
  rfl

theorem shown_hearPhase : shown (hearPhase level v) = { shown v with
    phaseLine := if v.straps.role = .solo then v.run.phaseLine else heard v.run.phaseLine level } := by
  have closure : (hearPhase level v).closure = v.closure := (hearPhase_frame level v).2 .closure (by decide)
  rw [shown, runLines_hearPhase, closure]
  rfl

theorem shown_hearDone : shown (hearDone level v) = { shown v with
    doneLine := if v.straps.role = .solo then v.run.doneLine else heard v.run.doneLine level } := by
  have closure : (hearDone level v).closure = v.closure := (hearDone_frame level v).2 .closure (by decide)
  rw [shown, runLines_hearDone, closure]
  rfl

end Shown

theorem Undisturbed.shown {s v : State} (h : Undisturbed s v) : shown v = shown s := by
  rw [Machine.shown, h.run, h.unit]
  rfl

/-- The lines of a tick: each one's row if its sample confirms, and of the rest the mark and the reading (log 5). -/
theorem sampleLines_eq {s v0 : State} (same : shown v0 = shown s) (straps : v0.straps = s.straps)
    (srcReady home pressDone phase done : Bool) :
    let change := fun (f : Filter) (level : Bool) (rise fall : Instr) =>
      if f.seeded = true ∧ f.pending = true ∧ level ≠ f.level then [if level then rise else fall] else []
    let onLine := fun (f g : Filter) => if s.straps.role = .solo then f else g
    let v1 := hearSrcReady srcReady v0
    let v2 := hearHome home v1
    let v3 := hearPressDone pressDone v2
    let v4 := hearPhase phase v3
    let u := hearDone done v4
    execAll (change s.run.srcReady srcReady .srcReadyRise .srcReadyFall)
        { v0 with run := { v0.run with srcReady := firstReading s.run.srcReady srcReady } } = .next v1 ∧
      execAll (change s.closure.home home .homeRise .homeFall)
        { v1 with closure := { v1.closure with home := firstReading s.closure.home home } } = .next v2 ∧
      execAll (change s.closure.pressDone pressDone .pressDoneRise .pressDoneFall)
        { v2 with closure := { v2.closure with pressDone := firstReading s.closure.pressDone pressDone } } = .next v3 ∧
      execAll (change s.run.phaseLine phase .phaseRise .phaseFall)
        { v3 with run := { v3.run with phaseLine := onLine s.run.phaseLine (firstReading s.run.phaseLine phase) } } = .next v4 ∧
      execAll (change s.run.doneLine done .doneRise .doneFall)
        { v4 with run := { v4.run with doneLine := onLine s.run.doneLine (firstReading s.run.doneLine done) } } = .next u ∧
      sampleDone done (samplePhase phase (samplePressDone pressDone (sampleHome home (sampleSrcReady srcReady v0)))) = { u with
        run := { u.run with
          srcReady := filterAfter s.run.srcReady srcReady, phaseReading := phase, doneReading := done
          phaseLine := onLine s.run.phaseLine (filterAfter s.run.phaseLine phase)
          doneLine := onLine s.run.doneLine (filterAfter s.run.doneLine done) }
        closure := { u.closure with
          home := filterAfter s.closure.home home, pressDone := filterAfter s.closure.pressDone pressDone } } := by
  intro change onLine v1 v2 v3 v4 u
  have at_srcReady : v0.run.srcReady = s.run.srcReady := congrArg LineFilters.srcReady same
  have shown1 : shown v1 = { shown s with srcReady := heard s.run.srcReady srcReady } := by
    rw [shown_hearSrcReady, same, at_srcReady]
  have at_home : v1.closure.home = s.closure.home := congrArg LineFilters.home shown1
  have shown2 : shown v2 = { shown s with srcReady := heard s.run.srcReady srcReady, home := heard s.closure.home home } := by
    rw [shown_hearHome, shown1, at_home]
  have at_pressDone : v2.closure.pressDone = s.closure.pressDone := congrArg LineFilters.pressDone shown2
  have shown3 : shown v3 = { shown s with
      srcReady := heard s.run.srcReady srcReady, home := heard s.closure.home home
      pressDone := heard s.closure.pressDone pressDone } := by
    rw [shown_hearPressDone, shown2, at_pressDone]
  have at_phase : v3.run.phaseLine = s.run.phaseLine := congrArg LineFilters.phaseLine shown3
  have straps3 : v3.straps = s.straps := calc
    v3.straps = v2.straps := (hearPressDone_frame pressDone v2).2 .straps (by decide)
    _ = v1.straps := (hearHome_frame home v1).2 .straps (by decide)
    _ = v0.straps := (hearSrcReady_frame srcReady v0).2 .straps (by decide)
    _ = s.straps := straps
  have shown4 : shown v4 = { shown s with
      srcReady := heard s.run.srcReady srcReady, home := heard s.closure.home home
      pressDone := heard s.closure.pressDone pressDone, phaseLine := onLine s.run.phaseLine (heard s.run.phaseLine phase) } := by
    rw [shown_hearPhase, shown3, at_phase, straps3]
  have at_done : v4.run.doneLine = s.run.doneLine := congrArg LineFilters.doneLine shown4
  have straps4 : v4.straps = s.straps := ((hearPhase_frame phase v3).2 .straps (by decide)).trans straps3
  have shown5 : shown u = ⟨heard s.run.srcReady srcReady, onLine s.run.phaseLine (heard s.run.phaseLine phase),
      onLine s.run.doneLine (heard s.run.doneLine done), heard s.closure.home home, heard s.closure.pressDone pressDone⟩ := by
    rw [shown_hearDone, shown4, at_done, straps4]
  have row1 := execAll_srcReady srcReady v0
  have row2 := execAll_home home v1
  have row3 := execAll_pressDone pressDone v2
  have row4 := execAll_phase phase v3
  have row5 := execAll_done done v4
  rw [at_srcReady] at row1
  rw [at_home] at row2
  rw [at_pressDone] at row3
  have role3 : v3.straps.role = s.straps.role := congrArg Straps.role straps3
  have role4 : v4.straps.role = s.straps.role := congrArg Straps.role straps4
  rw [at_phase, role3] at row4
  rw [at_done, role4] at row5
  refine ⟨row1, row2, row3, row4, row5, ?_⟩
  have online : ∀ (f : Filter) (level : Bool), remark (if s.straps.role = .solo then id else markAfter f level) (onLine f (heard f level)) =
      onLine f (filterAfter f level) := by
    intro f level
    by_cases solo : s.straps.role = .solo
    · simp only [onLine, if_pos solo]
      rfl
    · simp only [onLine, if_neg solo]
      exact remark_heard f level
  have srcReady_after : remark (markAfter s.run.srcReady srcReady) u.run.srcReady = filterAfter s.run.srcReady srcReady := by
    rw [show u.run.srcReady = _ from congrArg LineFilters.srcReady shown5]
    exact remark_heard ..
  have home_after : remark (markAfter s.closure.home home) u.closure.home = filterAfter s.closure.home home := by
    rw [show u.closure.home = _ from congrArg LineFilters.home shown5]
    exact remark_heard ..
  have pressDone_after : remark (markAfter s.closure.pressDone pressDone) u.closure.pressDone = filterAfter s.closure.pressDone pressDone := by
    rw [show u.closure.pressDone = _ from congrArg LineFilters.pressDone shown5]
    exact remark_heard ..
  have phase_after : remark (if s.straps.role = .solo then id else markAfter s.run.phaseLine phase) u.run.phaseLine =
      onLine s.run.phaseLine (filterAfter s.run.phaseLine phase) := by
    rw [show u.run.phaseLine = _ from congrArg LineFilters.phaseLine shown5]
    exact online ..
  have done_after : remark (if s.straps.role = .solo then id else markAfter s.run.doneLine done) u.run.doneLine =
      onLine s.run.doneLine (filterAfter s.run.doneLine done) := by
    rw [show u.run.doneLine = _ from congrArg LineFilters.doneLine shown5]
    exact online ..
  rw [sampleSrcReady_eq, sampleHome_outside home v1 _ (fun _ => rfl) rfl, samplePressDone_outside pressDone v2 _ (fun _ => rfl) rfl,
    samplePhase_outside phase v3 _ rfl, sampleDone_outside done v4 _ rfl, at_srcReady, at_home, at_pressDone, at_phase, at_done, role3,
    role4, ← srcReady_after, ← home_after, ← pressDone_after, ← phase_after, ← done_after]
  rfl

end Sys2Proof.Machine
end

section
/-! PROOF. The keys of a column and the end of a tick (R163 to R165, R173). -/

namespace Sys2Proof.Machine

/-! ## One key's sample (R164, R167) -/

/-- The sample of key `k` confirms a press. -/
def Pressing (rows : BitVec 7) (s : State) (k : Fin 56) : Prop :=
  rows.getLsbD (k.val / 8) = true ∧ Confirming (s.panel.keys.get k) true

/-- Key `k` sampled from its row. -/
def sampleAt (rows : BitVec 7) (s : State) (k : Fin 56) : State :=
  if confirms (s.panel.keys.get k) (rows.getLsbD (k.val / 8)) then
    if rows.getLsbD (k.val / 8) then
      (pressed k s).setPanel { (pressed k s).panel with scanPresses := s.panel.scanPresses ||| BitVec.twoPow 56 k.val }
    else releaseKey k s
  else putKey k (sampleFilter (s.panel.keys.get k) (rows.getLsbD (k.val / 8))) s

/-- What the samples of keys leave: their filters, the presses noted for the end of the scan, and the mode timer. -/
structure Sampled (rows : BitVec 7) (keys : List (Fin 56)) (s t : State) : Prop where
  rest : t = { s with panel := { s.panel with
    keys := t.panel.keys, scanPresses := t.panel.scanPresses, modeTimer := t.panel.modeTimer } }
  filters : ∀ k, t.panel.keys.get k =
    if k ∈ keys then filterAfter (s.panel.keys.get k) (rows.getLsbD (k.val / 8)) else s.panel.keys.get k
  presses : ∀ k : Fin 56, t.panel.scanPresses.getLsbD k.val = true ↔
    s.panel.scanPresses.getLsbD k.val = true ∨ k ∈ keys ∧ Pressing rows s k
  restarted : (∃ k ∈ keys, Pressing rows s k) → s.panel.mode ≠ .none →
    t.panel.modeTimer = some ⟨s.settings.panelTimeout * 1000, s.settings.panelTimeout * 1000⟩
  goes_on : (∀ k ∈ keys, ¬Pressing rows s k) ∨ s.panel.mode = .none → t.panel.modeTimer = s.panel.modeTimer

section Keys
variable {rows : BitVec 7} {s t : State} {k : Fin 56}

theorem sampleKey_eq (column : Fin 8) (rows : BitVec 7) (s : State) (row : Fin 7) :
    sampleKey column rows s row = sampleAt rows s (keyOf column row) := by
  have at_row : (keyOf column row).val / 8 = row.val := by simp only [keyOf]; omega
  unfold sampleKey sampleAt
  simp only [at_row, confirmPress_eq]
  rfl

theorem sampleAt_press (press : Pressing rows s k) : sampleAt rows s k =
    (pressed k s).setPanel { (pressed k s).panel with scanPresses := s.panel.scanPresses ||| BitVec.twoPow 56 k.val } := by
  obtain ⟨down, confirming⟩ := press
  have confirms : confirms (s.panel.keys.get k) (rows.getLsbD (k.val / 8)) = true := confirms_iff.mpr (down ▸ confirming)
  exact (if_pos confirms).trans (if_pos down)

theorem sampleAt_no_press (press : ¬Pressing rows s k) :
    sampleAt rows s k = putKey k (filterAfter (s.panel.keys.get k) (rows.getLsbD (k.val / 8))) s := by
  by_cases confirming : confirms (s.panel.keys.get k) (rows.getLsbD (k.val / 8)) = true
  · have up : rows.getLsbD (k.val / 8) = false := by
      by_contra down
      have down := Bool.eq_true_of_not_eq_false down
      exact press ⟨down, down ▸ confirms_iff.mp confirming⟩
    have released : releaseKey k s = putKey k (confirmed false) s := if_pos (canChange_confirming (up ▸ confirming))
    rw [sampleAt, if_pos confirming, filterAfter_confirming (confirms_iff.mp confirming), up]
    exact (if_neg nofun).trans released
  · rw [sampleAt, if_neg confirming, sampleFilter_eq]

theorem Sampled.nil (rows : BitVec 7) (s : State) : Sampled rows [] s s where
  rest := rfl
  filters k := rfl
  presses k := by simp
  restarted := by simp
  goes_on _ := rfl

theorem sampled_sampleAt (rows : BitVec 7) (s : State) (k : Fin 56) : Sampled rows [k] s (sampleAt rows s k) := by
  by_cases press : Pressing rows s k
  · rw [sampleAt_press press]
    have after : filterAfter (s.panel.keys.get k) (rows.getLsbD (k.val / 8)) = confirmed true := by
      obtain ⟨down, confirming⟩ := press
      rw [down, filterAfter_confirming confirming]
    constructor
    case rest => rfl
    case filters =>
      intro j
      refine (Tbl.get_set _ k j _).trans ?_
      simp only [List.mem_singleton]
      split
      · next at_k => rw [at_k, after]; rfl
      · rfl
    case presses =>
      intro j
      have bit : (BitVec.twoPow 56 k.val).getLsbD j.val = true ↔ j = k := by simp [Fin.ext_iff, eq_comm]
      simp only [State.setPanel_panel, BitVec.getLsbD_or, Bool.or_eq_true, bit, List.mem_singleton]
      exact or_congr_right ⟨fun at_k => ⟨at_k, at_k ▸ press⟩, And.left⟩
    case restarted => exact fun _ mode => if_neg mode
    case goes_on => exact fun idle => if_pos (idle.resolve_left fun none => none k List.mem_cons_self press)
  · rw [sampleAt_no_press press]
    constructor
    case rest => rfl
    case filters =>
      intro j
      refine (Tbl.get_set _ k j _).trans ?_
      simp only [List.mem_singleton]
      split
      · next at_k => rw [at_k]
      · rfl
    case presses =>
      intro j
      refine ⟨.inl, fun pressed => pressed.resolve_right fun ⟨at_k, pressing⟩ => press ?_⟩
      exact List.mem_singleton.mp at_k ▸ pressing
    case restarted =>
      rintro ⟨j, at_k, pressing⟩
      exact absurd (List.mem_singleton.mp at_k ▸ pressing) press
    case goes_on => exact fun _ => rfl

theorem Sampled.cons {keys : List (Fin 56)} {u : State} (here : Sampled rows [k] s t) (rest : Sampled rows keys t u) (fresh : k ∉ keys) :
    Sampled rows (k :: keys) s u := by
  have mode : t.panel.mode = s.panel.mode := congrArg (·.panel.mode) here.rest
  have settings : t.settings = s.settings := (congrArg State.settings here.rest).trans rfl
  have other : ∀ {j}, j ∈ keys → t.panel.keys.get j = s.panel.keys.get j := fun {j} mem => by
    refine (here.filters j).trans (if_neg fun at_k => ?_)
    rw [List.mem_singleton.mp at_k] at mem
    exact fresh mem
  have pressing : ∀ {j}, j ∈ keys → (Pressing rows t j ↔ Pressing rows s j) := fun mem => by rw [Pressing, Pressing, other mem]
  constructor
  case rest =>
    have through := congrArg (fun x : State => { x with panel := { x.panel with
      keys := u.panel.keys, scanPresses := u.panel.scanPresses, modeTimer := u.panel.modeTimer } }) here.rest
    exact rest.rest.trans through
  case filters =>
    intro j
    rw [rest.filters j]
    by_cases mem : j ∈ keys
    · rw [if_pos mem, if_pos (List.mem_cons_of_mem k mem), other mem]
    · rw [if_neg mem, here.filters j]
      simp only [List.mem_cons, List.not_mem_nil, mem, or_false]
  case presses =>
    intro j
    rw [rest.presses j, here.presses j, or_assoc, List.mem_singleton, List.mem_cons, or_and_right]
    exact or_congr_right (or_congr_right (and_congr_right fun mem => pressing mem))
  case restarted =>
    rintro ⟨j, mem, press⟩ in_mode
    by_cases later : ∃ i ∈ keys, Pressing rows t i
    · rw [rest.restarted later (mode ▸ in_mode), settings]
    · have none : ∀ i ∈ keys, ¬Pressing rows t i := fun i mem press => later ⟨i, mem, press⟩
      have at_k : j = k := (List.mem_cons.mp mem).resolve_right fun mem => none j mem ((pressing mem).mpr press)
      rw [rest.goes_on (.inl none), here.restarted ⟨j, List.mem_singleton.mpr at_k, press⟩ in_mode]
  case goes_on =>
    rintro (none | idle)
    · rw [rest.goes_on (.inl fun j mem => mt (pressing mem).mp (none j (List.mem_cons_of_mem k mem))),
        here.goes_on (.inl fun j mem => none j (List.mem_singleton.mp mem ▸ List.mem_cons_self))]
    · rw [rest.goes_on (.inr (mode.trans idle)), here.goes_on (.inr idle)]

theorem sampled_foldl (rows : BitVec 7) (keys : List (Fin 56)) (s : State) (once : keys.Nodup) :
    Sampled rows keys s (keys.foldl (sampleAt rows) s) := by
  induction keys generalizing s with
  | nil => exact .nil rows s
  | cons k keys ih =>
    obtain ⟨fresh, once⟩ := List.nodup_cons.mp once
    exact (sampled_sampleAt rows s k).cons (ih _ once) fresh

/-- The keys of a column (R163). -/
def columnKeys (column : Fin 8) : List (Fin 56) := (List.finRange 7).map (keyOf column)

theorem mem_columnKeys {column : Fin 8} : k ∈ columnKeys column ↔ k.val % 8 = column.val := by
  rw [columnKeys, List.mem_map]
  constructor
  · rintro ⟨row, -, rfl⟩
    simp only [keyOf]
    omega
  · intro at_column
    exact ⟨⟨k.val / 8, by omega⟩, List.mem_finRange _, Fin.ext (by simp only [keyOf]; omega)⟩

theorem nodup_columnKeys (column : Fin 8) : (columnKeys column).Nodup := by
  refine (List.nodup_finRange 7).map fun row row' same => Fin.ext ?_
  have same := congrArg Fin.val same
  simp only [keyOf] at same
  omega

theorem foldl_sampleKey (column : Fin 8) (rows : BitVec 7) (s : State) :
    (List.finRange 7).foldl (sampleKey column rows) s = (columnKeys column).foldl (sampleAt rows) s := by
  rw [columnKeys, List.foldl_map]
  exact congrArg (fun sample => (List.finRange 7).foldl sample s) (funext₂ (sampleKey_eq column rows))

end Keys

/-! ## The end of a column -/

section Column
variable {s : State}

theorem column_of_frame {t : State} {bs : List Block} (frame : OnlyChanges bs s t) (apart : .panel ∉ bs := by decide) :
    t.panel.column = s.panel.column := congrArg Panel.column (frame.2 .panel apart)

theorem positionKeyActs_column (slot : Pos) (s : State) : (positionKeyActs slot s).panel.column = s.panel.column := by
  cases mode : s.panel.mode with
  | none => rw [positionKeyActs_none mode]
  | load =>
    rw [positionKeyActs_load mode rfl, loadKeyAt_eq]
    have kept := column_of_frame (confirmPosition_frame s (slotOf s.settings.orient slot))
    split <;> exact kept
  | close =>
    rw [positionKeyActs_close mode rfl, closeKeyAt_eq]
    have kept := column_of_frame (closePosition_frame s (slotOf s.settings.orient slot))
    split <;> exact kept
  | remove =>
    rw [positionKeyActs_remove mode rfl, removeKeyAt_eq]
    have kept := column_of_frame (retirePosition_frame s (slotOf s.settings.orient slot))
    split
    · exact kept
    · split <;> exact kept

theorem keyActs_column (k : Fin 56) (s : State) : (keyActs k s).panel.column = s.panel.column := by
  unfold keyActs
  split
  · exact positionKeyActs_column _ s
  · split
    case h_4 => exact column_of_frame (holdRun_frame s)
    case h_5 => exact column_of_frame (resumeRun_frame s)
    case h_6 => exact column_of_frame (requestAbort_frame s)
    all_goals rfl

theorem endScan_column (s : State) : (endScan s).panel.column = s.panel.column := by
  unfold endScan
  split
  · exact keyActs_column _ _
  · rfl

theorem lampSlot_val (column : Fin 8) (row : Fin 6) : (lampSlot column row).val = 8 * row.val + column.val := rfl

end Column

end Sys2Proof.Machine
end

section
/-! PROOF. A tick of the time base (R1, R163, R172; log 3, log 5). -/

namespace Sys2Proof.Machine

/-- The keys of a column sampled, and the scan, at its end, closed. -/
theorem endColumn_eq (rows : BitVec 7) (s : State) :
    ∃ keys, Sampled rows (columnKeys s.panel.column) s keys ∧
      ∃ scan, scan = (if s.panel.column = 7 then endScan keys else keys) ∧ scan.panel.column = s.panel.column ∧
        endColumn rows s = driveColumn (scan.setPanel { scan.panel with column := scan.panel.column + 1 }) := by
  have sampled := sampled_foldl rows (columnKeys s.panel.column) s (nodup_columnKeys _)
  rw [← foldl_sampleKey] at sampled
  have column : ((List.finRange 7).foldl (sampleKey s.panel.column rows) s).panel.column = s.panel.column :=
    congrArg (·.panel.column) sampled.rest
  refine ⟨_, sampled, _, rfl, ?_, ?_⟩
  · split
    · exact (endScan_column _).trans column
    · exact column
  · unfold endColumn
    simp only [column]

/-- The clock and the timers of a tick (R1, R172). -/
theorem tickClock_tickTimers (s : State) :
    let less := fun t : Option Timer => t.map fun t => ⟨t.length, t.left - 1⟩
    tickClock (tickTimers s) = { s with
      front := { s.front with window := less s.front.window }, engine := { s.engine with timer := less s.engine.timer }
      run := { s.run with
        latency := less s.run.latency, source := less s.run.source, settle := less s.run.settle, guard := less s.run.guard
        holdOff := less s.run.holdOff, phaseLow := less s.run.phaseLow }
      closure := { s.closure with
        stepTimer := less s.closure.stepTimer, dwellTimer := less s.closure.dwellTimer
        pressTimer := less s.closure.pressTimer }
      panel := { s.panel with
        clock := (s.panel.clock + 1) % 2000, modeTimer := less s.panel.modeTimer
        flashes := Tbl.ofFn fun slot => less (s.panel.flashes.get slot), lampTest := less s.panel.lampTest } } := by
  intro less
  have flashes : (s.panel.flashes.mapIdx fun _ t => tickTimer t) = Tbl.ofFn fun slot => less (s.panel.flashes.get slot) :=
    Tbl.ext fun slot => by rw [Tbl.get_mapIdx, Tbl.get_ofFn]; rfl
  unfold tickClock tickTimers
  rw [flashes]
  rfl

theorem undisturbed_tickTimers (s : State) : Undisturbed s (tickClock (tickTimers s)) := ⟨rfl, rfl, rfl, rfl, rfl, rfl, rfl⟩

/-- The end of a tick's column, seen from the part `s` that the tick began with (R163 to R165, R173). -/
theorem endColumn_seen {s lines : State} (keys_kept : lines.panel.keys = s.panel.keys) (presses_kept : lines.panel.scanPresses = s.panel.scanPresses)
    (column_kept : lines.panel.column = s.panel.column) (settings : lines.settings = s.settings) (rows : BitVec 7) :
    let press := fun k : Fin 56 => k.val % 8 = s.panel.column.val ∧ rows.getLsbD (k.val / 8) = true ∧
      Confirming (s.panel.keys.get k) true
    ∃ keys scan t, keys = { lines with panel := { lines.panel with
        keys := keys.panel.keys, scanPresses := keys.panel.scanPresses, modeTimer := keys.panel.modeTimer } } ∧
      (∀ k : Fin 56, keys.panel.keys.get k = if k.val % 8 = s.panel.column.val then
        filterAfter (s.panel.keys.get k) (rows.getLsbD (k.val / 8)) else s.panel.keys.get k) ∧
      (∀ k : Fin 56, keys.panel.scanPresses.getLsbD k.val = true ↔ s.panel.scanPresses.getLsbD k.val = true ∨ press k) ∧
      ((∃ k, press k) → lines.panel.mode ≠ .none →
        keys.panel.modeTimer = some ⟨s.settings.panelTimeout * 1000, s.settings.panelTimeout * 1000⟩) ∧
      ((∀ k, ¬press k) ∨ lines.panel.mode = .none → keys.panel.modeTimer = lines.panel.modeTimer) ∧
      scan = (if s.panel.column = 7 then endScan keys else keys) ∧
      endColumn rows lines = t ∧ t = { scan with panel := { scan.panel with column := s.panel.column + 1, drive := t.panel.drive } } ∧
      ∀ row, t.panel.drive.get row =
        lampOf (lampAppearance t (lampSlot t.panel.column row)) t.settings.brightness t.panel.clock := by
  intro press
  obtain ⟨keys, sampled, scan, scan_eq, column, ended⟩ := endColumn_eq rows lines
  rw [column_kept] at scan_eq column
  have pressing : ∀ k, k ∈ columnKeys lines.panel.column ∧ Pressing rows lines k ↔ press k := fun k => by
    rw [mem_columnKeys, Pressing, keys_kept, column_kept]
  refine ⟨keys, scan, _, sampled.rest, fun k => ?_, fun k => ?_, fun ⟨k, pressed⟩ in_mode => ?_, fun quiet => ?_, scan_eq, ended, ?_, fun row => ?_⟩
  · rw [sampled.filters k, keys_kept]
    exact if_congr (mem_columnKeys.trans (by rw [column_kept])) rfl rfl
  · rw [sampled.presses k, presses_kept, pressing k]
  · rw [sampled.restarted ⟨k, (pressing k).mpr pressed⟩ in_mode, settings]
  · exact sampled.goes_on (quiet.imp_left fun none k mem pressed => none k ((pressing k).mp ⟨mem, pressed⟩))
  · rw [← column]
    rfl
  · exact Tbl.get_ofFn ..

/-- Settles O51. -/
theorem aTickCountsTimeAndTakesTheLines : Obligations.ATickCountsTimeAndTakesTheLines := by
  intro srcReady home pressDone phase done rows s less counted expiry expiries onLine first change press
  have counts : tickClock (tickTimers s) = counted := tickClock_tickTimers s
  have overdue : execAll expiries counted = .next (takeExpiries s counted) := execAll_expiries s counted
  have calm : Undisturbed s (takeExpiries s counted) := by
    rw [← counts]
    exact (undisturbed_tickTimers s).trans (undisturbed_takeExpiries s _)
  obtain ⟨row1, row2, row3, row4, row5, lines_eq⟩ := sampleLines_eq calm.shown calm.straps srcReady home pressDone phase done
  have ticked : exec (.millisecondTick srcReady home pressDone phase done rows) s = .next (endColumn rows
      (sampleDone done (samplePhase phase (samplePressDone pressDone (sampleHome home (sampleSrcReady srcReady (takeExpiries s counted))))))) := by
    rw [← counts]
    rfl
  have frame : OnlyChanges [.table, .engine, .run, .stock, .closure, .attn] (takeExpiries s counted)
    (hearLines srcReady home pressDone phase done (takeExpiries s counted)) := hearLines_frame
  have panel : (hearLines srcReady home pressDone phase done (takeExpiries s counted)).panel = (takeExpiries s counted).panel :=
    frame.2 .panel (by decide)
  rw [lines_eq] at ticked
  have settings : (hearLines srcReady home pressDone phase done (takeExpiries s counted)).settings = (takeExpiries s counted).settings :=
    frame.2 .settings (by decide)
  have heard : ∀ {α} (f : State → α), f (sampleDone done (samplePhase phase (samplePressDone pressDone (sampleHome home
      (sampleSrcReady srcReady (takeExpiries s counted)))))) = f _ := fun f => congrArg f lines_eq
  obtain ⟨keys, scan, t, rest, filters, presses, restarted, goes_on, scan_eq, ended, t_eq, drive⟩ := endColumn_seen
    ((heard (·.panel.keys)).trans ((congrArg Panel.keys panel).trans calm.keys))
    ((heard (·.panel.scanPresses)).trans ((congrArg Panel.scanPresses panel).trans calm.presses))
    ((heard (·.panel.column)).trans ((congrArg Panel.column panel).trans calm.column))
    ((heard (·.settings)).trans (settings.trans calm.settings)) rows
  rw [lines_eq] at rest restarted goes_on ended
  rw [ended] at ticked
  exact ⟨_, _, _, _, _, _, _, keys, scan, t, overdue, row1, row2, row3, row4, row5, rfl, rest, filters, presses, restarted, goes_on, scan_eq,
    ticked, t_eq, drive, lampSlot_val⟩

end Sys2Proof.Machine
end
